-- ==== Sys2Proof/Word.lean ====
section
/-! DEFINITION. The widths of VAI-SRT: the command word, a register, a byte on the wire, a line level. -/

namespace Sys2Proof

/-- A command word on the command port (30_encoding.md R61). -/
abbrev Word := BitVec 32

/-- A configuration register, an immediate, response data or a cycle counter (10_state.md R29, R37, R28). -/
abbrev Data := BitVec 24

/-- A byte on the wire, and one bit for each of the eight pads (00_scope.md R9, 10_state.md R15). -/
abbrev Byte := BitVec 8

/-- A line level: `LOW` is `false`, `HIGH` is `true` (00_scope.md R13). -/
abbrev Level := Bool

end Sys2Proof
end

