-- ==== Sys2Proof/Syntax.lean ====
section
/-! DEFINITION. The commands of VAI-SRT as terms: line ids, register indices, edges, and one constructor
for each row of the opcode table. -/

namespace Sys2Proof

/-- The eight lines by their names, in the order of their ids 0 to 7 (10_state.md R20). -/
inductive LineId where
  | data | clock | latch | interrupt | ack | gpio0 | gpio1 | gpio2
  deriving DecidableEq, Repr, Inhabited

/-- The eight register indices 0 to 7, the last of them reserved (10_state.md R29). -/
inductive RegIndex where
  | settle | intpulse | timeout | laststat | linecfg | linelvl | xferinfo | reserved7
  deriving DecidableEq, Repr, Inhabited

/-- The edge a detector looks for (10_state.md R19 `esel`, 40_signal_line.md R76). -/
inductive Edge where
  | falling | rising
  deriving DecidableEq, Repr, Inhabited

/-- The 13 commands (30_encoding.md R63). An immediate is kept as the 24 bits of its field; how a command reads
them is said in Operands.lean. A term may break a value constraint of R65 (see WellFormed.lean): its meaning then
answers ILLEGAL_COMMAND. -/
inductive Instr where
  /-- Respond and do nothing else (45_control.md R121). -/
  | nop
  /-- Claim a line as an output at an initial level (40_signal_line.md R73). -/
  | cfgout (line : LineId) (level : Level)
  /-- Claim a line as an input (40_signal_line.md R74). -/
  | cfgin (line : LineId)
  /-- Set the level of a claimed GPIO output (40_signal_line.md R75). -/
  | setlvl (line : LineId) (level : Level)
  /-- Arm edge detection on a claimed GPIO input (40_signal_line.md R76). -/
  | armedge (line : LineId) (edge : Edge)
  /-- Wait for the armed edge of a GPIO input, with a timeout where enabled (40_signal_line.md R77). -/
  | waitedge (line : LineId) (timeoutEn : Bool)
  /-- Shift one level into the external register and commit it (41_shift_register_link.md R81). -/
  | send (level : Data)
  /-- One handshake: the interrupt pulse and the wait for ack (42_handshake.md R97). -/
  | hshake
  /-- Quantize a sample (43_quantizer.md R113). -/
  | quant (sample : Data)
  /-- The full byte cycle of a sample (44_transmit_cycle.md R115). -/
  | xmit (sample : Data)
  /-- Write a timing register (45_control.md R122). -/
  | wrcfg (reg : RegIndex) (value : Data)
  /-- Read a register (45_control.md R123). -/
  | rdcfg (reg : RegIndex)
  /-- Free a line (40_signal_line.md R80). -/
  | release (line : LineId)
  deriving DecidableEq, Repr, Inhabited

end Sys2Proof
end

