-- ==== Sys2Proof/WellFormed.lean ====
section
/-! DEFINITION. The value constraints of 30_encoding.md R65 (a) to (e), as a check on a command. R65 (f) depends on
the state and stands in WAITEDGE's meaning. -/

namespace Sys2Proof

/-- Every value constraint of 30_encoding.md R65 that can be read off the command alone:
(a) SEND's level is at most 5; (b) WRCFG names a writable register; (c) SETTLE and INTPULSE are not written 0;
(d) RDCFG does not name index 7; (e) the interrupt line is not claimed LOW. -/
def Instr.wellFormed : Instr → Bool
  | .nop => true
  | .cfgout line level => !(line = .interrupt && level = false)
  | .cfgin _ => true
  | .setlvl _ _ => true
  | .armedge _ _ => true
  | .waitedge _ _ => true
  | .send level => decide (level.toNat ≤ 5)
  | .hshake => true
  | .quant _ => true
  | .xmit _ => true
  | .wrcfg reg value =>
    match reg with
    | .settle | .intpulse => value != 0
    | .timeout => true
    | .laststat | .linecfg | .linelvl | .xferinfo | .reserved7 => false
  | .rdcfg reg => reg != .reserved7
  | .release _ => true

end Sys2Proof
end

