-- ==== Sys2Proof/Decode.lean ====
section
/-! DEFINITION. Decoding and encoding of command words, format C32 (30_encoding.md R61 to R68). -/

namespace Sys2Proof

/-- Why a word is no command (30_encoding.md R64, R66). Either way the block answers ILLEGAL_COMMAND. -/
inductive DecodeError where
  /-- the opcode is 0xD, 0xE or 0xF (R66) -/
  | reservedOpcode
  /-- the opcode is in the table and a should-be-zero field is not zero (R64) -/
  | nonzeroSbz
  deriving DecidableEq, Repr

/-- The id of a line, also its pad number (10_state.md R20). -/
def LineId.num : LineId → Nat
  | .data => 0 | .clock => 1 | .latch => 2 | .interrupt => 3
  | .ack => 4 | .gpio0 => 5 | .gpio1 => 6 | .gpio2 => 7

/-- All line ids in order. -/
def LineId.all : List LineId := [.data, .clock, .latch, .interrupt, .ack, .gpio0, .gpio1, .gpio2]

/-- The `line` field that names a line (30_encoding.md R61). -/
def LineId.bits (L : LineId) : BitVec 3 := BitVec.ofNat 3 L.num

/-- The line a `line` field names: every value names one (20_memory.md R43). -/
def LineId.ofBits (b : BitVec 3) : LineId :=
  match b.toNat with
  | 0 => .data | 1 => .clock | 2 => .latch | 3 => .interrupt
  | 4 => .ack | 5 => .gpio0 | 6 => .gpio1 | _ => .gpio2

/-- A register's index (10_state.md R29). -/
def RegIndex.num : RegIndex → Nat
  | .settle => 0 | .intpulse => 1 | .timeout => 2 | .laststat => 3
  | .linecfg => 4 | .linelvl => 5 | .xferinfo => 6 | .reserved7 => 7

/-- The `line` field that names a register (30_encoding.md R61). -/
def RegIndex.bits (r : RegIndex) : BitVec 3 := BitVec.ofNat 3 r.num

/-- The register a `line` field names (10_state.md R29). -/
def RegIndex.ofBits (b : BitVec 3) : RegIndex :=
  match b.toNat with
  | 0 => .settle | 1 => .intpulse | 2 => .timeout | 3 => .laststat
  | 4 => .linecfg | 5 => .linelvl | 6 => .xferinfo | _ => .reserved7

/-- An edge as the flag bit: 0 = FALLING, 1 = RISING (30_encoding.md R62). -/
def Edge.bit : Edge → Bool
  | .falling => false
  | .rising => true

/-- The edge a flag bit selects (30_encoding.md R62). -/
def Edge.ofBit : Bool → Edge
  | false => .falling
  | true => .rising

/-- `cmd[31:28]` (30_encoding.md R61). -/
def opField (w : Word) : BitVec 4 := w.extractLsb' 28 4

/-- `cmd[27:25]` (30_encoding.md R61). -/
def lineField (w : Word) : BitVec 3 := w.extractLsb' 25 3

/-- `cmd[24]` (30_encoding.md R61). -/
def flagField (w : Word) : Bool := w.getLsbD 24

/-- `cmd[23:0]` (30_encoding.md R61). -/
def immField (w : Word) : Data := w.extractLsb' 0 24

/-- `cmd = op ++ line ++ f ++ imm` (30_encoding.md R61). -/
def packWord (op : BitVec 4) (line : BitVec 3) (f : Bool) (imm : Data) : Word :=
  op ++ line ++ BitVec.ofBool f ++ imm

/-- The command, where the should-be-zero fields are zero (30_encoding.md R63, R64). -/
def whenSbz (sbz : Bool) (i : Instr) : Except DecodeError Instr :=
  if sbz then .ok i else .error .nonzeroSbz

/-- The command a word stands for, by its opcode and its should-be-zero fields (30_encoding.md R63, R64, R66). The value
constraints of R65 are checked by the command's meaning. Log 13. -/
def decode (w : Word) : Except DecodeError Instr :=
  let line := lineField w
  let f := flagField w
  let imm := immField w
  match (opField w).toNat with
  | 0x0 => whenSbz (line == 0 && !f && imm == 0) .nop
  | 0x1 => whenSbz (imm == 0) (.cfgout (LineId.ofBits line) f)
  | 0x2 => whenSbz (!f && imm == 0) (.cfgin (LineId.ofBits line))
  | 0x3 => whenSbz (imm == 0) (.setlvl (LineId.ofBits line) f)
  | 0x4 => whenSbz (imm == 0) (.armedge (LineId.ofBits line) (Edge.ofBit f))
  | 0x5 => whenSbz (imm == 0) (.waitedge (LineId.ofBits line) f)
  | 0x6 => whenSbz (line == 0 && !f) (.send imm)
  | 0x7 => whenSbz (line == 0 && !f && imm == 0) .hshake
  | 0x8 => whenSbz (line == 0 && !f) (.quant imm)
  | 0x9 => whenSbz (line == 0 && !f) (.xmit imm)
  | 0xA => whenSbz (!f) (.wrcfg (RegIndex.ofBits line) imm)
  | 0xB => whenSbz (!f && imm == 0) (.rdcfg (RegIndex.ofBits line))
  | 0xC => whenSbz (!f && imm == 0) (.release (LineId.ofBits line))
  | _ => .error .reservedOpcode

/-- The opcode of a command (30_encoding.md R63). -/
def Instr.opcode : Instr → BitVec 4
  | .nop => 0x0 | .cfgout _ _ => 0x1 | .cfgin _ => 0x2 | .setlvl _ _ => 0x3 | .armedge _ _ => 0x4
  | .waitedge _ _ => 0x5 | .send _ => 0x6 | .hshake => 0x7 | .quant _ => 0x8 | .xmit _ => 0x9
  | .wrcfg _ _ => 0xA | .rdcfg _ => 0xB | .release _ => 0xC

/-- The word of a command (30_encoding.md R63, R69). -/
def encode : Instr → Word
  | .nop => packWord 0x0 0 false 0
  | .cfgout L f => packWord 0x1 L.bits f 0
  | .cfgin L => packWord 0x2 L.bits false 0
  | .setlvl L f => packWord 0x3 L.bits f 0
  | .armedge L e => packWord 0x4 L.bits e.bit 0
  | .waitedge L f => packWord 0x5 L.bits f 0
  | .send v => packWord 0x6 0 false v
  | .hshake => packWord 0x7 0 false 0
  | .quant s => packWord 0x8 0 false s
  | .xmit s => packWord 0x9 0 false s
  | .wrcfg r v => packWord 0xA r.bits false v
  | .rdcfg r => packWord 0xB r.bits false 0
  | .release L => packWord 0xC L.bits false 0

/-- One row of the bit-pattern table (30_encoding.md R64). -/
structure OpcodeRow where
  /-- the mnemonic -/
  mnemonic : String
  /-- the fixed bits' values -/
  pattern : Word
  /-- which bits are fixed -/
  mask : Word
  deriving DecidableEq, Repr

/-- The bit-pattern table (30_encoding.md R64). -/
def opcodeRows : List OpcodeRow := [
  ⟨"NOP", 0x00000000, 0xFFFFFFFF⟩,
  ⟨"CFGOUT", 0x10000000, 0xF0FFFFFF⟩,
  ⟨"CFGIN", 0x20000000, 0xF1FFFFFF⟩,
  ⟨"SETLVL", 0x30000000, 0xF0FFFFFF⟩,
  ⟨"ARMEDGE", 0x40000000, 0xF0FFFFFF⟩,
  ⟨"WAITEDGE", 0x50000000, 0xF0FFFFFF⟩,
  ⟨"SEND", 0x60000000, 0xFF000000⟩,
  ⟨"HSHAKE", 0x70000000, 0xFFFFFFFF⟩,
  ⟨"QUANT", 0x80000000, 0xFF000000⟩,
  ⟨"XMIT", 0x90000000, 0xFF000000⟩,
  ⟨"WRCFG", 0xA0000000, 0xF1000000⟩,
  ⟨"RDCFG", 0xB0000000, 0xF1FFFFFF⟩,
  ⟨"RELEASE", 0xC0000000, 0xF1FFFFFF⟩]

/-- `(cmd AND mask) = match` (30_encoding.md R64). -/
def OpcodeRow.matches (r : OpcodeRow) (w : Word) : Bool := (w &&& r.mask) == r.pattern

/-- The mnemonic of a command as the table spells it (30_encoding.md R63). -/
def Instr.mnemonic : Instr → String
  | .nop => "NOP" | .cfgout _ _ => "CFGOUT" | .cfgin _ => "CFGIN" | .setlvl _ _ => "SETLVL"
  | .armedge _ _ => "ARMEDGE" | .waitedge _ _ => "WAITEDGE" | .send _ => "SEND" | .hshake => "HSHAKE"
  | .quant _ => "QUANT" | .xmit _ => "XMIT" | .wrcfg _ _ => "WRCFG" | .rdcfg _ => "RDCFG"
  | .release _ => "RELEASE"

/-- The command word the low `nbits` bits of `w` give. A command is one 32-bit word on a parallel port, with no byte
order (20_memory.md R46), so the table's numbering of bits is the word's own. -/
def tableWord (nbits w : Nat) : Word := BitVec.ofNat 32 (w % 2 ^ nbits)

/-- The command this decoder reads from the low `nbits` bits of `w`, none where it is no command. -/
def decodeTableWord (nbits w : Nat) : Option Instr :=
  match decode (tableWord nbits w) with
  | .ok i => some i
  | .error _ => none

end Sys2Proof
end

