-- ==== Sys2Proof/Config.lean ====
section
/-! DEFINITION. What an implementation fixes (the OPEN parameters of 00_scope.md R8), the input ports, and the free
values: constants with no body, so that a proof holds whatever they are. -/

namespace Sys2Proof

/-- What the outside gives the input ports in one cycle, `clk` apart (10_state.md R15). -/
structure Inputs where
  /-- synchronous reset, active HIGH -/
  rst : Bool
  /-- the command source offers `cmd` this cycle -/
  cmdValid : Bool
  /-- the command word -/
  cmd : Word
  /-- request to cancel the edge wait in progress -/
  cancel : Bool
  /-- bit L is the level the outside puts on pad L; the port `pad_in[L]` shows it where the block does not drive the pad
  (R17, 93_implementation_defined.md I5), and is `State.padLevel` -/
  padExt : Byte
  /-- bit L reports that a physical write or read on pad L failed this cycle -/
  padFault : Byte
  deriving DecidableEq, Repr, Inhabited

/-- `CLK_FREQ_HZ` less one (00_scope.md R8, OPEN). The bound is the largest frequency whose reset values fit 24 bits,
`floor((2^24 - 1) * 10^6 / 20)`: a higher one is "not admitted" (93_implementation_defined.md I15) and cannot be
written here. Log 6. -/
opaque Config.clkFreqIndex : Fin 838860750000

/-- `CLK_FREQ_HZ`, a positive integer (00_scope.md R8). Log 6. -/
def Config.clkFreqHz : Nat := Config.clkFreqIndex.val + 1

/-- `T_PERIPH_MIN_PULSE`, in cycles (00_scope.md R8, OPEN), one that SETTLE can meet. Log 7. -/
opaque Config.tPeriphMinPulse : Data

/-- The input ports in a cycle whose inputs `State.env` does not give: any value, afresh in every cycle
(70_reset_and_hazards.md R161, 93_implementation_defined.md I5, I7, I16). Log 1. -/
opaque Config.freeInputs : Nat → Inputs

/-- Whether the external register commits at the latch's rising edge or at its falling edge, which the source does
not say (91_not_in_source.md N6). Log 8. -/
opaque Config.latchCommitsOnRise : Bool

/-- Which of the external register's outputs already show the new bit in a cycle with the latch HIGH
(93_implementation_defined.md I4). Log 8. -/
opaque Config.freeOutMask : Nat → Byte

/-- The external register's stages after a clock pulse shorter than the peripheral's minimum
(93_implementation_defined.md I3). Log 7. -/
opaque Config.freeStage : Nat → Byte

/-- What the external register commits where no rule fixes it: after a pulse shorter than the peripheral's minimum
(93_implementation_defined.md I3, log 7), and where the clock rises in the same cycle as a latch edge (log 9). -/
opaque Config.freeOut : Nat → Byte

/-- The bit captured at a rising clock edge at which the data line changes too. Log 9. -/
opaque Config.freeDataBit : Nat → Bool

end Sys2Proof
end

