-- ==== Sys2Proof/Machine/Params.lean ====
section
/-! DEFINITION. The reset values of the two delays as functions of the clock frequency (00_scope.md R8). -/

namespace Sys2Proof.Machine

/-- `max(1, ceil(us * f / 1_000_000))`: the cycles of a delay of `us` microseconds at `f` Hz (00_scope.md R8). -/
def delayCycles (us f : Nat) : Nat := max 1 ((us * f + 999999) / 1000000)

/-- `SETTLE_RST`, about 1 microsecond (00_scope.md R8). -/
def settleRst (f : Nat) : Nat := delayCycles 1 f

/-- `INTPULSE_RST`, about 20 microseconds (00_scope.md R8). -/
def intpulseRst (f : Nat) : Nat := delayCycles 20 f

/-- Whether a frequency's reset values fit their registers (00_scope.md R8). -/
def admittedFreq (f : Nat) : Bool := decide (0 < f ∧ settleRst f < 2 ^ 24 ∧ intpulseRst f < 2 ^ 24)

end Sys2Proof.Machine
end

