-- ==== Sys2Proof/Machine/State.lean ====
section
/-! DEFINITION. The state of VAI-SRT (10_state.md), the external shift register's (41_shift_register_link.md R91), the
model's own input list and cycle number, and the state after reset (70_reset_and_hazards.md R145). -/

namespace Sys2Proof.Machine

/-- A claimed line's direction: 1 = output, 0 = input (10_state.md R19). -/
inductive Dir where
  | input | output
  deriving DecidableEq, Repr

/-- One entry of the line file (10_state.md R19). -/
structure Line where
  /-- claimed by CFGOUT or CFGIN and not yet released -/
  claimed : Bool
  /-- the direction, meaningful only when claimed -/
  dir : Dir
  /-- the level driven when the line is a claimed output -/
  lvl : Level
  /-- edge detection armed -/
  armed : Bool
  /-- the armed edge -/
  esel : Edge
  /-- an armed edge has occurred and no wait has consumed it -/
  seen : Bool
  /-- first synchroniser stage (R22) -/
  s1 : Level
  /-- second synchroniser stage, the synchronised level `y` (R22) -/
  s2 : Level
  /-- the previous synchronised level (R23) -/
  ref : Level
  deriving DecidableEq, Repr

/-- The line file: one entry for each line, by name (10_state.md R19, R20). -/
structure LineFile where
  data : Line
  clock : Line
  latch : Line
  interrupt : Line
  ack : Line
  gpio0 : Line
  gpio1 : Line
  gpio2 : Line
  deriving DecidableEq, Repr

/-- The FSM states (10_state.md R27). The codes 9 to 14 are never entered and have no name here. -/
inductive FsmState where
  | idle | sData | sClkH | sClkL | lHigh | iPre | iAssert | iAwait | wAwait | fault
  deriving DecidableEq, Repr

/-- Which multi-cycle command is in progress (10_state.md R26). -/
inductive Op where
  | send | hshake | xmit | wait
  deriving DecidableEq, Repr

/-- The status codes 0 to 7 (60_exceptions.md R127). The codes 8 to 15 are never produced and have no name here. -/
inductive Status where
  | ok | lineUnavailable | lineFault | timeout | peripheralUnresponsive | outOfRange | cancelled | illegalCommand
  deriving DecidableEq, Repr

/-- The external shift register on pads 0, 1 and 2, which is not part of the block (41_shift_register_link.md R91). -/
structure ExtRegister where
  /-- the serial stages, bit 0 the first -/
  stage : Byte
  /-- the committed outputs; what the pins show while the latch is HIGH is `State.pins` -/
  out : Byte
  /-- the model's own: the stages at the latch's last rising edge (log 8) -/
  atRise : Byte
  deriving DecidableEq, Repr

/-- Everything the machine holds in a cycle. -/
structure State where
  /-- the FSM state (R27) -/
  st : FsmState
  /-- the multi-cycle command in progress (R26) -/
  op : Op
  /-- the pattern being shifted (R28) -/
  pat : Byte
  /-- index of the bit being shifted, 7 down to 0 (R28) -/
  bitidx : BitVec 3
  /-- cycles spent in the current hold state, from 1 (R28) -/
  cnt : Data
  /-- cycles already spent in the current wait, from 0 (R28) -/
  wcnt : Data
  /-- the line the current wait watches (R28) -/
  wline : LineId
  /-- the current wait has a timeout (R28) -/
  wto : Bool
  /-- the line file (R19) -/
  lines : LineFile
  /-- register 0, `SETTLE` (R30) -/
  settle : Data
  /-- register 1, `INTPULSE` (R31) -/
  intpulse : Data
  /-- register 2, `TIMEOUT` (R32) -/
  timeout : Data
  /-- status of the most recently completed command (R38) -/
  lastStatus : Status
  /-- completed handshakes, wrapping (R36) -/
  bytecount : BitVec 16
  /-- the pattern most recently committed by a latch pulse (R36) -/
  lastLevel : BitVec 3
  /-- a command completed in the cycle before (R37) -/
  rspValid : Bool
  /-- the response's status (R37) -/
  rspStatus : Status
  /-- the response's data (R37) -/
  rspData : Data
  /-- the block is in FAULT (R39) -/
  fault : Bool
  /-- the fatal error that entered FAULT (R39) -/
  faultCode : Status
  /-- the external shift register (41_shift_register_link.md R91) -/
  ext : ExtRegister
  /-- the model's own: the input ports in this cycle and the following ones (log 1) -/
  env : List Inputs
  /-- the model's own: the number of this cycle, index of the free values (log 1) -/
  cycle : Nat
  deriving DecidableEq, Repr

/-- How the machine can stop for good: it cannot. The block's own faults are states it goes on from (FAULT holds until
`rst`, 60_exceptions.md R131), so no step raises a fault and the type has no constructor. Safe: nothing is cut short.
Log 17. -/
inductive Fault where
  deriving DecidableEq, Repr

/-- How the machine can refuse an instruction. -/
inductive Refusal where
  /-- Raised only by an arm of `exec` for a command that has no meaning yet; every command has one, so nothing raises it.
  Safe: a refused instruction has no next state to reason about. -/
  | notModelled (mnemonic : String)
  deriving DecidableEq, Repr

/-- A line after reset (70_reset_and_hazards.md R145). `s1`, `s2` and `ref` are not reset and may hold any value there;
DESIGN CHOICE, unsafe: HIGH, the level of an idle pad in 95_test_vectors.md. Log 4. -/
def Line.reset : Line :=
  { claimed := false, dir := .input, lvl := false, armed := false, esel := .falling, seen := false,
    s1 := true, s2 := true, ref := true }

/-- The state after reset at the clock frequency `f` (70_reset_and_hazards.md R145). The external register is
unspecified at power-up (41_shift_register_link.md R91); DESIGN CHOICE, unsafe: 0. Log 5. The environment has fixed
nothing yet: `env` is empty. -/
def State.resetAt (f : Nat) : State :=
  { st := .idle, op := .send, pat := 0, bitidx := 0, cnt := 0, wcnt := 0, wline := .data, wto := false,
    lines := { data := Line.reset, clock := Line.reset, latch := Line.reset, interrupt := Line.reset,
               ack := Line.reset, gpio0 := Line.reset, gpio1 := Line.reset, gpio2 := Line.reset },
    settle := BitVec.ofNat 24 (settleRst f), intpulse := BitVec.ofNat 24 (intpulseRst f), timeout := 0,
    lastStatus := .ok, bytecount := 0, lastLevel := 0,
    rspValid := false, rspStatus := .ok, rspData := 0,
    fault := false, faultCode := .ok,
    ext := { stage := 0, out := 0, atRise := 0 },
    env := [], cycle := 0 }

/-- The state right after reset, at the machine's own clock frequency (70_reset_and_hazards.md R145). -/
def State.reset : State := State.resetAt Config.clkFreqHz

end Sys2Proof.Machine
end

