-- ==== Sys2Proof/Machine/Flags.lean ====
section
/-! DEFINITION. Everything computed from the state without changing it: this cycle's inputs, edges, codes, output ports
and the values of the configuration registers (10_state.md R16 to R40, 60_exceptions.md R127, R128, R132). -/

namespace Sys2Proof.Machine

/-! ## The line file -/

/-- Entry `L` of the line file. -/
def LineFile.get (F : LineFile) : LineId → Line
  | .data => F.data | .clock => F.clock | .latch => F.latch | .interrupt => F.interrupt
  | .ack => F.ack | .gpio0 => F.gpio0 | .gpio1 => F.gpio1 | .gpio2 => F.gpio2

/-- Entry `L` of the state's line file, the spec's `line[L]` (00_scope.md R12). -/
def State.line (s : State) (L : LineId) : Line := s.lines.get L

/-- Claimed as an output, the test SEND, HSHAKE and XMIT make of the lines they drive. -/
def Line.isOutput (l : Line) : Bool := l.claimed && l.dir == .output

/-- Claimed as an input, the test of the commands that watch a line. -/
def Line.isInput (l : Line) : Bool := l.claimed && l.dir == .input

/-! ## This cycle's inputs -/

/-- The input ports `j` cycles from now (10_state.md R15): what `env` gives, else a free value. Log 1. -/
def State.inpAt (s : State) (j : Nat) : Inputs :=
  match s.env[j]? with
  | some i => i
  | none => Config.freeInputs (s.cycle + j)

/-- The input ports in this cycle (10_state.md R15). -/
def State.inp (s : State) : Inputs := s.inpAt 0

/-- Bit `L` of a port with one bit for each pad (10_state.md R15). -/
def padBit (b : Byte) (L : LineId) : Bool := b.getLsbD L.num

/-! ## Edges -/

/-- `fall[L](n)` (10_state.md R23). -/
def Line.fall (l : Line) : Bool := l.ref && !l.s2

/-- `rise[L](n)` (10_state.md R23). -/
def Line.rise (l : Line) : Bool := !l.ref && l.s2

/-- `edge[L](n)` (10_state.md R23). -/
def Line.edge (l : Line) : Bool :=
  match l.esel with
  | .falling => l.fall
  | .rising => l.rise

/-! ## Codes -/

/-- The code of an FSM state, shown on the `state` port (10_state.md R27). -/
def FsmState.code : FsmState → BitVec 4
  | .idle => 0 | .sData => 1 | .sClkH => 2 | .sClkL => 3 | .lHigh => 4 | .iPre => 5 | .iAssert => 6
  | .iAwait => 7 | .wAwait => 8 | .fault => 15

/-- The code of a multi-cycle command (10_state.md R26). -/
def Op.code : Op → BitVec 2
  | .send => 0 | .hshake => 1 | .xmit => 2 | .wait => 3

/-- The code of a status (60_exceptions.md R127). -/
def Status.code : Status → BitVec 4
  | .ok => 0 | .lineUnavailable => 1 | .lineFault => 2 | .timeout => 3
  | .peripheralUnresponsive => 4 | .outOfRange => 5 | .cancelled => 6 | .illegalCommand => 7

/-- The fatal errors (60_exceptions.md R128). -/
def Status.isFatal : Status → Bool
  | .lineUnavailable | .lineFault => true
  | .ok | .timeout | .peripheralUnresponsive | .outOfRange | .cancelled | .illegalCommand => false

/-- Direction as a bit: 1 = output (10_state.md R19). -/
def Dir.bit : Dir → Bool
  | .input => false
  | .output => true

/-! ## Output ports (10_state.md R16) -/

/-- `cmd_ready` (R18). -/
def State.cmdReady (s : State) : Bool := s.st == .idle && !s.inp.rst

/-- A command is accepted in this cycle (R18). -/
def State.accepts (s : State) : Bool := s.inp.cmdValid && s.cmdReady

/-- `pad_oe[L]` (R16). -/
def State.padOe (s : State) (L : LineId) : Bool := (s.line L).isOutput

/-- `pad_out[L]` (R16). -/
def State.padOut (s : State) (L : LineId) : Level := (s.line L).lvl

/-- `busy` (R16). -/
def State.busy (s : State) : Bool := s.st != .idle && s.st != .fault

/-- The `state` port (R16, R27). -/
def State.statePort (s : State) : BitVec 4 := s.st.code

/-- The `fault_code` port (R16, R39). -/
def State.faultCodePort (s : State) : BitVec 4 := s.faultCode.code

/-- The `rsp_status` port (R16, R37). -/
def State.rspStatusPort (s : State) : BitVec 4 := s.rspStatus.code

/-- `pad_in[L]`: the level on pad `L` in this cycle, as the block and the outside see it. It is the block's own `pad_out[L]`
where the block drives the pad, else whatever the outside puts there (R15, R17, 93_implementation_defined.md I5). No agent
drives a pad that the block drives (93_implementation_defined.md I14). Log 12. -/
def State.padLevel (s : State) (L : LineId) : Level :=
  if s.padOe L then s.padOut L else padBit s.inp.padExt L

/-! ## Line faults -/

/-- `lf(n)`: a fault is reported on a claimed line (60_exceptions.md R132). -/
def State.lineFault (s : State) : Bool :=
  LineId.all.any fun L => (s.line L).claimed && padBit s.inp.padFault L

/-! ## The configuration registers as read (10_state.md R29 to R36) -/

/-- The level LINELVL shows for a line: what it drives, what it reads, or 0 (R35). -/
def Line.shownLevel (l : Line) : Level :=
  match l.claimed, l.dir with
  | true, .output => l.lvl
  | true, .input => l.s2
  | false, _ => false

/-- One bit of every line, bit L for line L. -/
def State.lineByte (s : State) (f : Line → Bool) : Byte :=
  BitVec.ofBoolListLE [f (s.line .data), f (s.line .clock), f (s.line .latch), f (s.line .interrupt),
    f (s.line .ack), f (s.line .gpio0), f (s.line .gpio1), f (s.line .gpio2)]

/-- `LASTSTAT` (R33). -/
def State.laststat (s : State) : Data := s.lastStatus.code.setWidth 24

/-- A line's three bits in LINECFG: `armed`, `dir`, `claimed` (R34). -/
def Line.cfgBits (l : Line) : BitVec 3 :=
  BitVec.ofBool l.armed ++ BitVec.ofBool l.dir.bit ++ BitVec.ofBool l.claimed

/-- `LINECFG` (R34): line 7's bits are the most significant. -/
def State.linecfg (s : State) : Data :=
  (s.line .gpio2).cfgBits ++ (s.line .gpio1).cfgBits ++ (s.line .gpio0).cfgBits ++ (s.line .ack).cfgBits ++
    (s.line .interrupt).cfgBits ++ (s.line .latch).cfgBits ++ (s.line .clock).cfgBits ++ (s.line .data).cfgBits

/-- `LINELVL` (R35): `esel` in bits 23 to 16, `seen` in 15 to 8, levels in 7 to 0. -/
def State.linelvl (s : State) : Data :=
  s.lineByte (fun l => l.esel.bit) ++ s.lineByte Line.seen ++ s.lineByte Line.shownLevel

/-- `XFERINFO` (R36): `last_level` in bits 18 to 16, `bytecount` in 15 to 0. -/
def State.xferinfo (s : State) : Data := (0 : BitVec 5) ++ s.lastLevel ++ s.bytecount

/-- The value of a register as RDCFG reads it in this cycle (R29). Index 7 is reserved: RDCFG raises an error and this
value is never used. -/
def State.cfgValue (s : State) : RegIndex → Data
  | .settle => s.settle
  | .intpulse => s.intpulse
  | .timeout => s.timeout
  | .laststat => s.laststat
  | .linecfg => s.linecfg
  | .linelvl => s.linelvl
  | .xferinfo => s.xferinfo
  | .reserved7 => 0

end Sys2Proof.Machine
end

