-- ==== Sys2Proof/Machine/Operands.lean ====
section
/-! DEFINITION. How a command reads its operands (30_encoding.md R62) and the checks it makes of the lines they name
(40_signal_line.md R72). -/

namespace Sys2Proof.Machine

/-- `sext_24`: the sample of QUANT and XMIT (30_encoding.md R62). -/
def sampleOf (imm : Data) : Int := imm.toInt

/-- The level of SEND and the value of WRCFG, read unsigned (30_encoding.md R62). -/
def unsignedOf (imm : Data) : Nat := imm.toNat

/-- `is_role(L)`: one of the five role lines (40_signal_line.md R72). -/
def isRole (L : LineId) : Bool := decide (L.num ≤ 4)

/-- `role_is_out(L)`: data, clock, latch or interrupt (40_signal_line.md R72). -/
def roleIsOut (L : LineId) : Bool := decide (L.num ≤ 3)

/-- `role_is_in(L)`: ack (40_signal_line.md R72). -/
def roleIsIn (L : LineId) : Bool := L == .ack

/-- Data, clock and latch are claimed outputs: what SEND needs (41_shift_register_link.md R81). -/
def State.linkClaimed (s : State) : Bool :=
  (s.line .data).isOutput && (s.line .clock).isOutput && (s.line .latch).isOutput

/-- Interrupt is a claimed output and ack a claimed input: what HSHAKE needs (42_handshake.md R97). -/
def State.channelClaimed (s : State) : Bool :=
  (s.line .interrupt).isOutput && (s.line .ack).isInput

end Sys2Proof.Machine
end

