-- ==== Sys2Proof/Machine/Ops.lean ====
section
/-! DEFINITION. The operations every transition is made of: writing a line, the always-running updates of a cycle,
`respond`, `raise`, `EnterFault`, and the reset transition (00_scope.md R12, 10_state.md R22 to R24, R37,
60_exceptions.md R130, 70_reset_and_hazards.md R145). -/

namespace Sys2Proof.Machine

/-- What a cycle's transition answers. -/
abbrev Result := Host.Outcome State Fault Refusal

/-! ## Writing lines -/

/-- The line file with entry `L` replaced. -/
def LineFile.set (F : LineFile) (L : LineId) (l : Line) : LineFile :=
  match L with
  | .data => { F with data := l }
  | .clock => { F with clock := l }
  | .latch => { F with latch := l }
  | .interrupt => { F with interrupt := l }
  | .ack => { F with ack := l }
  | .gpio0 => { F with gpio0 := l }
  | .gpio1 => { F with gpio1 := l }
  | .gpio2 => { F with gpio2 := l }

/-- Every entry replaced by what `f` makes of it. -/
def LineFile.map (F : LineFile) (f : LineId → Line → Line) : LineFile :=
  { data := f .data F.data, clock := f .clock F.clock, latch := f .latch F.latch,
    interrupt := f .interrupt F.interrupt, ack := f .ack F.ack,
    gpio0 := f .gpio0 F.gpio0, gpio1 := f .gpio1 F.gpio1, gpio2 := f .gpio2 F.gpio2 }

/-- The spec's `line[L].<fields> <- …`: entry `L` replaced by what `f` makes of it (00_scope.md R12). -/
def State.updLine (s : State) (L : LineId) (f : Line → Line) : State :=
  { s with lines := s.lines.set L (f (s.line L)) }

/-- `line[L].lvl <- v`. -/
def State.drive (s : State) (L : LineId) (v : Level) : State :=
  s.updLine L fun l => { l with lvl := v }

/-- `line[L].armed <- 0; line[L].seen <- 0`: the end of every wait (40_signal_line.md R78, R79). -/
def State.disarm (s : State) (L : LineId) : State :=
  s.updLine L fun l => { l with armed := false, seen := false }

/-! ## The always-running updates -/

/-- The synchroniser and the previous level, from `pad`, the pad's level this cycle (10_state.md R15, R22, R23). -/
def Line.sample (l : Line) (pad : Level) : Line :=
  { l with s1 := pad, s2 := l.s1, ref := l.s2 }

/-- The edge detector latch, from this cycle's `armed` and `edge` (10_state.md R24). -/
def Line.detect (l : Line) : Line :=
  { l with seen := l.seen || (l.armed && l.edge) }

/-- The updates of every cycle, reset and FAULT included: the synchronisers and `ref` sample, `rsp_valid` falls unless
the transition responds, and the inputs move on (60_exceptions.md R134). -/
def State.tickBase (s : State) : State :=
  { s with
    lines := s.lines.map fun L l => l.sample (s.padLevel L)
    rspValid := false
    env := s.env.tail
    cycle := s.cycle + 1 }

/-- The updates of a cycle without reset, FAULT or line fault, in which the edge detectors run too
(60_exceptions.md R134, cases 4 to 6). What a transition assigns is written over the result, so an explicit write of
`seen` wins (10_state.md R24). -/
def State.tick (s : State) : State :=
  { s with
    lines := s.lines.map fun L l => l.detect.sample (s.padLevel L)
    rspValid := false
    env := s.env.tail
    cycle := s.cycle + 1 }

/-! ## Completing a command -/

/-- `respond(s, d)` (00_scope.md R12). -/
def State.respond (s : State) (code : Status) (d : Data) : State :=
  { s with rspValid := true, rspStatus := code, rspData := d, lastStatus := code, st := .idle }

/-- What EnterFault makes of a line: disarmed, `seen` cleared, and a claimed output among clock, latch and interrupt
driven to its inactive level (60_exceptions.md R130). -/
def Line.enterFault (L : LineId) (l : Line) : Line :=
  { l with
    armed := false
    seen := false
    lvl :=
      match L with
      | .clock | .latch => if l.isOutput then false else l.lvl
      | .interrupt => if l.isOutput then true else l.lvl
      | .data | .ack | .gpio0 | .gpio1 | .gpio2 => l.lvl }

/-- `EnterFault(code)` in this cycle (60_exceptions.md R130); `answers` says that a command was accepted in this cycle or
was in progress, and so gets the response. -/
def State.enterFault (s : State) (code : Status) (answers : Bool) : State :=
  let t := s.tickBase
  let t := { t with fault := true, faultCode := code, st := .fault, lines := t.lines.map Line.enterFault }
  if answers then { t with rspValid := true, rspStatus := code, rspData := 0, lastStatus := code } else t

/-- `raise S` in the cycle that accepts a command (00_scope.md R12, 60_exceptions.md R128, R129). -/
def raise (code : Status) (s : State) : Result :=
  if code.isFatal then .next (s.enterFault code true) else .next (s.tick.respond code 0)

/-! ## Reset -/

/-- The reset transition: every state element of the block takes its reset value, but the synchronisers and `ref`, which
go on sampling (70_reset_and_hazards.md R145). The external register is not part of the block. -/
def State.resetCycle (s : State) : State :=
  let t := s.tickBase
  { State.reset with
    lines := t.lines.map fun _ l => { Line.reset with s1 := l.s1, s2 := l.s2, ref := l.ref }
    ext := s.ext
    env := t.env
    cycle := t.cycle }

end Sys2Proof.Machine
end

