-- ==== Sys2Proof/Machine/Control.lean ====
section
/-! DEFINITION. The control commands: NOP, WRCFG, RDCFG (45_control.md). -/

namespace Sys2Proof.Machine

/-- NOP (45_control.md R121). -/
def execNop (s : State) : Result := .next (s.tick.respond .ok 0)

/-- `reg[L] <- v` for the writable registers (45_control.md R122). -/
def State.writeReg (s : State) (r : RegIndex) (v : Data) : State :=
  match r with
  | .settle => { s with settle := v }
  | .intpulse => { s with intpulse := v }
  | .timeout => { s with timeout := v }
  | .laststat | .linecfg | .linelvl | .xferinfo | .reserved7 => s

/-- WRCFG (45_control.md R122). -/
def execWrcfg (r : RegIndex) (v : Data) (s : State) : Result :=
  if r.num ≥ 3 then raise .illegalCommand s
  else if (r = .settle ∨ r = .intpulse) ∧ unsignedOf v = 0 then raise .illegalCommand s
  else .next ((s.tick.writeReg r v).respond .ok 0)

/-- RDCFG: the value is that of this cycle (45_control.md R123). -/
def execRdcfg (r : RegIndex) (s : State) : Result :=
  if r = .reserved7 then raise .illegalCommand s
  else .next (s.tick.respond .ok (s.cfgValue r))

end Sys2Proof.Machine
end

