-- ==== Sys2Proof/Machine/Handshake.lean ====
section
/-! DEFINITION. HandshakeChannel: HSHAKE's issue cycle, I_PRE, I_ASSERT, HandshakeDone, and the wait step that WAITEDGE
and the handshake share (42_handshake.md R97 to R100, 44_transmit_cycle.md R116, 40_signal_line.md R78). -/

namespace Sys2Proof.Machine

/-- Assert the interrupt (active LOW) and start its pulse (42_handshake.md R97, 44_transmit_cycle.md R116). -/
def State.assertInterrupt (s : State) : State :=
  { s.drive .interrupt false with cnt := 1, st := .iAssert }

/-- HSHAKE's issue cycle (42_handshake.md R97). -/
def execHshake (s : State) : Result :=
  if !(s.line .interrupt).isOutput then raise .lineUnavailable s
  else if !(s.line .ack).isInput then raise .lineUnavailable s
  else .next { s.tick.assertInterrupt with op := .hshake }

/-- I_PRE: one cycle between the latch falling and the interrupt falling (44_transmit_cycle.md R116). -/
def stepIPre (s : State) : State := s.tick.assertInterrupt

/-- I_ASSERT: hold the interrupt LOW for INTPULSE cycles, then return it HIGH and arm ack for a falling edge
(42_handshake.md R98). -/
def stepIAssert (s : State) : State :=
  if s.cnt < s.intpulse then { s.tick with cnt := s.cnt + 1 }
  else
    let t := (s.tick.drive .interrupt true).updLine .ack fun l =>
      { l with armed := true, esel := .falling, seen := false }
    { t with wline := .ack, wcnt := 0, wto := s.timeout != 0, st := .iAwait }

/-- `HandshakeDone()` over the disarmed state: the byte is counted, and XMIT answers its level (42_handshake.md R100). -/
def State.handshakeDone (s : State) : State :=
  State.respond { s with bytecount := s.bytecount + 1 } .ok (if s.op = .xmit then s.pat.setWidth 24 else 0)

/-- `hit`: the watched line has an edge latched or has one in this cycle (40_signal_line.md R78). -/
def State.waitHit (s : State) : Bool := (s.line s.wline).seen || (s.line s.wline).edge

/-- The wait is in its last checked cycle: `wto = 1` and `wcnt = TIMEOUT - 1`, on mathematical integers
(40_signal_line.md R78, 00_scope.md R10). -/
def State.waitExpires (s : State) : Bool := s.wto && decide (s.wcnt.toNat + 1 = s.timeout.toNat)

/-- The wait step of W_AWAIT and I_AWAIT: an edge wins over `cancel`, which wins over the timeout
(40_signal_line.md R78, 60_exceptions.md R135). -/
def stepWait (s : State) : State :=
  let done := s.tick.disarm s.wline
  if s.waitHit then
    if s.st = .wAwait then done.respond .ok 0 else done.handshakeDone
  else if s.inp.cancel then done.respond .cancelled 0
  else if s.waitExpires then
    if s.st = .wAwait then done.respond .timeout 0 else done.respond .peripheralUnresponsive 0
  else if s.wto then { s.tick with wcnt := s.wcnt + 1 }
  else s.tick

end Sys2Proof.Machine
end

