-- ==== Sys2Proof/Machine/Link.lean ====
section
/-! DEFINITION. ShiftRegisterLink: SEND's issue cycle and the states S_DATA, S_CLKH, S_CLKL, L_HIGH that SEND and XMIT
share (41_shift_register_link.md R81 to R85). -/

namespace Sys2Proof.Machine

/-- Start shifting a pattern: the data line shows its most significant bit from the next cycle
(41_shift_register_link.md R81, 44_transmit_cycle.md R115). -/
def State.startShift (s : State) (op : Op) (pat : Byte) : State :=
  { s.drive .data (pat.getLsbD 7) with pat := pat, op := op, bitidx := 7, st := .sData }

/-- SEND's issue cycle (41_shift_register_link.md R81). -/
def execSend (v : Data) (s : State) : Result :=
  if unsignedOf v > 5 then raise .illegalCommand s
  else if !s.linkClaimed then raise .lineUnavailable s
  else .next (s.tick.startShift .send (v.setWidth 8))

/-- S_DATA: raise the clock (41_shift_register_link.md R82). -/
def stepSData (s : State) : State :=
  { s.tick.drive .clock true with cnt := 1, st := .sClkH }

/-- S_CLKH: hold the clock HIGH for SETTLE cycles, then lower it (41_shift_register_link.md R83). -/
def stepSClkH (s : State) : State :=
  if s.cnt < s.settle then { s.tick with cnt := s.cnt + 1 }
  else { s.tick.drive .clock false with cnt := 1, st := .sClkL }

/-- S_CLKL: hold the clock LOW for SETTLE cycles, then the next bit, or the latch after the last
(41_shift_register_link.md R84). -/
def stepSClkL (s : State) : State :=
  if s.cnt < s.settle then { s.tick with cnt := s.cnt + 1 }
  else if s.bitidx > 0 then
    { s.tick.drive .data (s.pat.getLsbD (s.bitidx.toNat - 1)) with bitidx := s.bitidx - 1, st := .sData }
  else { s.tick.drive .latch true with cnt := 1, st := .lHigh }

/-- L_HIGH: hold the latch HIGH for SETTLE cycles, then lower it; SEND is done, XMIT goes on to I_PRE
(41_shift_register_link.md R85). -/
def stepLHigh (s : State) : State :=
  if s.cnt < s.settle then { s.tick with cnt := s.cnt + 1 }
  else
    let t := { s.tick.drive .latch false with lastLevel := s.pat.setWidth 3 }
    if s.op = .send then t.respond .ok 0 else { t with st := .iPre }

end Sys2Proof.Machine
end

