-- ==== Sys2Proof/Machine/Quantizer.lean ====
section
/-! DEFINITION. The quantizer and QUANT (43_quantizer.md R107 to R113). -/

namespace Sys2Proof.Machine

/-- `q(v)` for a sample in [0, 255], with the fixed thresholds 10, 20, 30, 40, 50 (43_quantizer.md R107). -/
def quantize (v : Int) : BitVec 3 :=
  if v < 10 then 0
  else if v < 20 then 1
  else if v < 30 then 2
  else if v < 40 then 3
  else if v < 50 then 4
  else 5

/-- The sample is outside [0, 255] (43_quantizer.md R111). -/
def outOfRange (v : Int) : Bool := decide (v < 0 ∨ v > 255)

/-- QUANT (43_quantizer.md R113). -/
def execQuant (imm : Data) (s : State) : Result :=
  if outOfRange (sampleOf imm) then raise .outOfRange s
  else .next (s.tick.respond .ok ((quantize (sampleOf imm)).setWidth 24))

end Sys2Proof.Machine
end

