-- ==== Sys2Proof/Machine/SignalLine.lean ====
section
/-! DEFINITION. The SignalLine commands: CFGOUT, CFGIN, SETLVL, ARMEDGE, WAITEDGE (its issue cycle), RELEASE
(40_signal_line.md). -/

namespace Sys2Proof.Machine

/-- The fields of a line as a claim leaves them (40_signal_line.md R73, R74). -/
def Line.claim (l : Line) (dir : Dir) (lvl : Level) : Line :=
  { l with claimed := true, dir := dir, lvl := lvl, armed := false, esel := .falling, seen := false }

/-- CFGOUT (40_signal_line.md R73). -/
def execCfgout (L : LineId) (f : Level) (s : State) : Result :=
  if L = .interrupt ∧ f = false then raise .illegalCommand s
  else if (s.line L).claimed then raise .lineUnavailable s
  else if roleIsIn L then raise .lineUnavailable s
  else .next ((s.tick.updLine L fun l => l.claim .output f).respond .ok 0)

/-- CFGIN (40_signal_line.md R74). -/
def execCfgin (L : LineId) (s : State) : Result :=
  if (s.line L).claimed then raise .lineUnavailable s
  else if roleIsOut L then raise .lineUnavailable s
  else .next ((s.tick.updLine L fun l => l.claim .input false).respond .ok 0)

/-- SETLVL (40_signal_line.md R75). -/
def execSetlvl (L : LineId) (f : Level) (s : State) : Result :=
  if isRole L then raise .lineUnavailable s
  else if !(s.line L).isOutput then raise .lineUnavailable s
  else .next ((s.tick.drive L f).respond .ok 0)

/-- ARMEDGE: its write of `seen` wins over the detector's (40_signal_line.md R76). -/
def execArmedge (L : LineId) (e : Edge) (s : State) : Result :=
  if isRole L then raise .lineUnavailable s
  else if !(s.line L).isInput then raise .lineUnavailable s
  else .next ((s.tick.updLine L fun l => { l with armed := true, esel := e, seen := false }).respond .ok 0)

/-- WAITEDGE's issue cycle: no response yet, the wait step goes on from W_AWAIT (40_signal_line.md R77). -/
def execWaitedge (L : LineId) (f : Bool) (s : State) : Result :=
  if isRole L then raise .lineUnavailable s
  else if !(s.line L).isInput then raise .lineUnavailable s
  else if !(s.line L).armed then raise .illegalCommand s
  else .next { s.tick with op := .wait, wline := L, wcnt := 0, wto := f && s.timeout != 0, st := .wAwait }

/-- RELEASE (40_signal_line.md R80). -/
def execRelease (L : LineId) (s : State) : Result :=
  .next ((s.tick.updLine L fun l =>
    { l with claimed := false, dir := .input, lvl := false, armed := false, esel := .falling, seen := false }).respond
      .ok 0)

end Sys2Proof.Machine
end

