-- ==== Sys2Proof/Machine/Transmit.lean ====
section
/-! DEFINITION. XMIT's issue cycle: quantize, then the same shift as SEND (44_transmit_cycle.md R115, R117). -/

namespace Sys2Proof.Machine

/-- XMIT's issue cycle: unclaimed lines are reported before an out-of-range sample (44_transmit_cycle.md R115). -/
def execXmit (imm : Data) (s : State) : Result :=
  if !(s.linkClaimed && (s.line .interrupt).isOutput) then raise .lineUnavailable s
  else if !(s.line .ack).isInput then raise .lineUnavailable s
  else if outOfRange (sampleOf imm) then raise .outOfRange s
  else .next (s.tick.startShift .xmit ((quantize (sampleOf imm)).setWidth 8))

end Sys2Proof.Machine
end

