-- ==== Sys2Proof/Machine/Dispatch.lean ====
section
/-! DEFINITION. The transition of the cycle that accepts a command (60_exceptions.md R134, case 4): one arm per command. -/

namespace Sys2Proof.Machine

def exec (i : Instr) (s : State) : Host.Outcome State Fault Refusal :=
  match i with
  | .nop => Sys2Proof.Machine.execNop s
  | .cfgout line level => Sys2Proof.Machine.execCfgout line level s
  | .cfgin line => Sys2Proof.Machine.execCfgin line s
  | .setlvl line level => Sys2Proof.Machine.execSetlvl line level s
  | .armedge line edge => Sys2Proof.Machine.execArmedge line edge s
  | .waitedge line timeoutEn => Sys2Proof.Machine.execWaitedge line timeoutEn s
  | .send level => Sys2Proof.Machine.execSend level s
  | .hshake => Sys2Proof.Machine.execHshake s
  | .quant sample => Sys2Proof.Machine.execQuant sample s
  | .xmit sample => Sys2Proof.Machine.execXmit sample s
  | .wrcfg reg value => Sys2Proof.Machine.execWrcfg reg value s
  | .rdcfg reg => Sys2Proof.Machine.execRdcfg reg s
  | .release line => Sys2Proof.Machine.execRelease line s

end Sys2Proof.Machine
end

