-- ==== Sys2Proof/Machine/ExtReg.lean ====
section
/-! DEFINITION. The external shift register on the data, clock and latch pads, and what the peripheral reads from it
(41_shift_register_link.md R91 to R95, 93_implementation_defined.md I3 to I5). It is not part of the block. -/

namespace Sys2Proof.Machine

/-- `stage <- stage[6:0] ++ d` (41_shift_register_link.md R92). -/
def shiftIn (stage : Byte) (d : Level) : Byte := stage.extractLsb' 0 7 ++ BitVec.ofBool d

/-- A pad goes from LOW to HIGH between the cycle of `s` and the cycle of `t`. -/
def padRises (s t : State) (L : LineId) : Bool := !s.padLevel L && t.padLevel L

/-- A pad goes from HIGH to LOW between the cycle of `s` and the cycle of `t`. -/
def padFalls (s t : State) (L : LineId) : Bool := s.padLevel L && !t.padLevel L

/-- The settle delay is below the peripheral's minimum clock-pulse width, so no rule fixes what the register holds after
a pulse (70_reset_and_hazards.md R153, 93_implementation_defined.md I3). Log 7. -/
def State.pulsesTooShort (s : State) : Bool := decide (s.settle.toNat < Config.tPeriphMinPulse.toNat)

/-- The bit captured at a clock edge between the cycles of `s` and `t`: the data line's level, free where the data line
changes at that same edge (41_shift_register_link.md R92). Log 9. -/
def capturedBit (s t : State) : Level :=
  if s.padLevel .data = t.padLevel .data then t.padLevel .data else Config.freeDataBit s.cycle

/-- The stages in the cycle of `t` (41_shift_register_link.md R92). -/
def nextStage (s t : State) : Byte :=
  if padRises s t .clock then
    if s.pulsesTooShort then Config.freeStage s.cycle else shiftIn s.ext.stage (capturedBit s t)
  else s.ext.stage

/-- No rule fixes what a latch edge between the cycles of `s` and `t` commits: the pulse is too short (log 7), or the
clock rises at the same edge (log 9). -/
def commitIsFree (s t : State) : Bool := s.pulsesTooShort || padRises s t .clock

/-- The stages kept at a rising latch edge, for a register that commits there (91_not_in_source.md N6). Log 8. -/
def nextAtRise (s t : State) : Byte :=
  if padRises s t .latch then
    if commitIsFree s t then Config.freeOut s.cycle else s.ext.stage
  else s.ext.atRise

/-- The committed outputs in the cycle of `t`: after a latch pulse, the stages (41_shift_register_link.md R93). -/
def nextOut (s t : State) : Byte :=
  if padFalls s t .latch then
    if commitIsFree s t then Config.freeOut s.cycle
    else if Config.latchCommitsOnRise then s.ext.atRise else s.ext.stage
  else s.ext.out

/-- The external register in the cycle of `t`, the cycle after that of `s`. -/
def nextExt (s t : State) : ExtRegister :=
  { stage := nextStage s t, out := nextOut s t, atRise := nextAtRise s t }

/-- The register's output pins as the peripheral reads them in this cycle: the committed outputs, and while the latch
line is HIGH any mix, bit by bit, of those and the stages (41_shift_register_link.md R93, 93_implementation_defined.md
I4). Log 8. -/
def State.pins (s : State) : Byte :=
  if s.padLevel .latch then
    (s.ext.out &&& ~~~(Config.freeOutMask s.cycle)) ||| (s.ext.stage &&& Config.freeOutMask s.cycle)
  else s.ext.out

end Sys2Proof.Machine
end

