-- ==== Sys2Proof/Machine/Cycle.lean ====
section
/-! DEFINITION. One cycle of `clk`: the block's transition by the per-cycle priority (60_exceptions.md R134), then the
external register's; and the offer of a word on the command port. -/

namespace Sys2Proof.Machine

/-- The accepted word is executed, or answered ILLEGAL_COMMAND (30_encoding.md R64, R66, R67). -/
def runCommand (w : Word) (s : State) : Result :=
  match decode w with
  | .ok i => exec i s
  | .error _ => raise .illegalCommand s

/-- The step of a state other than IDLE and FAULT; IDLE with no command changes nothing but the always-running updates
(60_exceptions.md R134, cases 5 and 6). -/
def fsmStep (s : State) : State :=
  match s.st with
  | .idle => s.tick
  | .sData => stepSData s
  | .sClkH => stepSClkH s
  | .sClkL => stepSClkL s
  | .lHigh => stepLHigh s
  | .iPre => stepIPre s
  | .iAssert => stepIAssert s
  | .iAwait => stepWait s
  | .wAwait => stepWait s
  | .fault => s.tickBase

/-- The block's transition of this cycle, by the first case of 60_exceptions.md R134 that applies. -/
def blockCycle (s : State) : Result :=
  if s.inp.rst then .next s.resetCycle
  else if s.st = .fault then .next s.tickBase
  else if s.lineFault then .next (s.enterFault .lineFault (s.accepts || s.st != .idle))
  else if s.accepts then runCommand s.inp.cmd s
  else .next (fsmStep s)

/-- The whole cycle: the block's transition, and with it the external register's, which sees the pads of this cycle and
of the next (41_shift_register_link.md R92, R93). -/
def fullCycle (s : State) : Result :=
  match blockCycle s with
  | .next t => .next { t with ext := nextExt s t }
  | .fault r => .fault r
  | .refused r => .refused r

/-- These inputs with a word offered on the command port, no reset and no line fault (10_state.md R18,
60_exceptions.md R134). -/
def Inputs.offering (i : Inputs) (w : Word) : Inputs :=
  { i with rst := false, cmdValid := true, cmd := w, padFault := 0 }

/-- The word is offered in this cycle to a block that is IDLE, so that this cycle accepts it (10_state.md R18). Log 2. -/
def State.offering (s : State) (w : Word) : State :=
  { s with st := .idle, env := Inputs.offering s.inp w :: s.env.tail }

end Sys2Proof.Machine
end

