-- ==== Sys2Proof/Machine/Step.lean ====
section
/-! DEFINITION. The step: one cycle of `clk` (00_scope.md R11). Log 3. -/

namespace Sys2Proof.Machine

/-- One cycle of `clk`. -/
def step (s : State) : Host.Outcome State Fault Refusal := fullCycle s

/-- The state with a command word offered on the command port, where the next step takes its command from. Log 2. -/
def State.withFetchWord (s : State) (nbits w : Nat) : State := s.offering (tableWord nbits w)

end Sys2Proof.Machine
end

