-- ==== Sys2Proof/Machine/Assembler.lean ====
section
/-! DEFINITION. The assembler of the command source: one line of text to the words it stands for, the pseudo-instructions
among them (30_encoding.md R69, R70). -/

namespace Sys2Proof.Machine

/-- `linkinit`: claim the five role lines (30_encoding.md R70). -/
def linkInit : List Instr :=
  [.cfgout .data false, .cfgout .clock false, .cfgout .latch false, .cfgout .interrupt true, .cfgin .ack]

/-- `linkdown`: release the five role lines (30_encoding.md R70). -/
def linkDown : List Instr := [.release .data, .release .clock, .release .latch, .release .interrupt, .release .ack]

/-- The words between spaces, tabs and commas of a line of text; `cur` is the word being read, last letter first.
DESIGN CHOICE, safe: the spec gives no rule for blanks. Log 19. -/
def splitWords : List Char → List Char → List (List Char)
  | [], cur => if cur.isEmpty then [] else [cur.reverse]
  | c :: rest, cur =>
    if c = ' ' ∨ c = ',' ∨ c = '\t' then
      if cur.isEmpty then splitWords rest [] else cur.reverse :: splitWords rest []
    else splitWords rest (c :: cur)

/-- A digit's value, in either case for the letters of a hex digit. -/
def digitValue (c : Char) : Option Nat :=
  let n := c.toNat
  if 48 ≤ n ∧ n ≤ 57 then some (n - 48)
  else if 97 ≤ n ∧ n ≤ 102 then some (n - 87)
  else if 65 ≤ n ∧ n ≤ 70 then some (n - 55)
  else none

/-- Digits in a base, most significant first; `acc` is what stands before them. -/
def digitsValue (base : Nat) : List Char → Nat → Option Nat
  | [], acc => some acc
  | c :: rest, acc =>
    match digitValue c with
    | some d => if d < base then digitsValue base rest (acc * base + d) else none
    | none => none

/-- A number without sign: decimal, `0x` hex or `0b` binary (30_encoding.md R69). -/
def parseNat : List Char → Option Nat
  | [] => none
  | '0' :: 'x' :: c :: rest => digitsValue 16 (c :: rest) 0
  | '0' :: 'b' :: c :: rest => digitsValue 2 (c :: rest) 0
  | c :: rest => digitsValue 10 (c :: rest) 0

/-- A sample: a number with an optional leading `-` (30_encoding.md R69). -/
def parseInt : List Char → Option Int
  | '-' :: rest => (parseNat rest).map fun n => -(n : Int)
  | cs => (parseNat cs).map fun n => (n : Int)

/-- A line's name or its number 0 to 7 (30_encoding.md R69). -/
def parseLine (cs : List Char) : Option LineId :=
  if cs = "data".toList then some .data
  else if cs = "clock".toList then some .clock
  else if cs = "latch".toList then some .latch
  else if cs = "interrupt".toList then some .interrupt
  else if cs = "ack".toList then some .ack
  else if cs = "gpio0".toList then some .gpio0
  else if cs = "gpio1".toList then some .gpio1
  else if cs = "gpio2".toList then some .gpio2
  else
    match parseNat cs with
    | some n => if n < 8 then some (LineId.ofBits (BitVec.ofNat 3 n)) else none
    | none => none

/-- A register's name or its number 0 to 6 (30_encoding.md R69). -/
def parseReg (cs : List Char) : Option RegIndex :=
  if cs = "settle".toList then some .settle
  else if cs = "intpulse".toList then some .intpulse
  else if cs = "timeout".toList then some .timeout
  else if cs = "laststat".toList then some .laststat
  else if cs = "linecfg".toList then some .linecfg
  else if cs = "linelvl".toList then some .linelvl
  else if cs = "xferinfo".toList then some .xferinfo
  else
    match parseNat cs with
    | some n => if n < 7 then some (RegIndex.ofBits (BitVec.ofNat 3 n)) else none
    | none => none

/-- A level: `low`, `high`, `0` or `1` (30_encoding.md R69). -/
def parseLevel (cs : List Char) : Option Level :=
  if cs = "low".toList ∨ cs = "0".toList then some false
  else if cs = "high".toList ∨ cs = "1".toList then some true
  else none

/-- An edge: `falling` or `rising` (30_encoding.md R69). -/
def parseEdge (cs : List Char) : Option Edge :=
  if cs = "falling".toList then some .falling
  else if cs = "rising".toList then some .rising
  else none

/-- A register value that fits 24 bits (30_encoding.md R69). -/
def parseValue (cs : List Char) : Option Data :=
  match parseNat cs with
  | some n => if n < 2 ^ 24 then some (BitVec.ofNat 24 n) else none
  | none => none

/-- A SEND level, 0 to 5 (30_encoding.md R69). -/
def parseSendLevel (cs : List Char) : Option Data :=
  match parseNat cs with
  | some n => if n ≤ 5 then some (BitVec.ofNat 24 n) else none
  | none => none

/-- A sample in [-2^23, 2^23 - 1], as its field: `sample mod 2^24` (30_encoding.md R69). -/
def parseSample (cs : List Char) : Option Data :=
  match parseInt cs with
  | some z => if -(2 ^ 23) ≤ z ∧ z ≤ 2 ^ 23 - 1 then some (BitVec.ofInt 24 z) else none
  | none => none

/-- The commands one line stands for, its words given (30_encoding.md R69, R70). -/
def parseCommand : List (List Char) → Option (List Instr)
  | [m] =>
    if m = "nop".toList then some [.nop]
    else if m = "hshake".toList then some [.hshake]
    else if m = "linkinit".toList then some linkInit
    else if m = "linkdown".toList then some linkDown
    else if m = "rdstat".toList then some [.rdcfg .laststat]
    else none
  | [m, a] =>
    if m = "cfgin".toList then (parseLine a).map fun L => [.cfgin L]
    else if m = "waitedge".toList then (parseLine a).map fun L => [.waitedge L false]
    else if m = "send".toList then (parseSendLevel a).map fun v => [.send v]
    else if m = "quant".toList then (parseSample a).map fun v => [.quant v]
    else if m = "xmit".toList then (parseSample a).map fun v => [.xmit v]
    else if m = "rdcfg".toList then (parseReg a).map fun r => [.rdcfg r]
    else if m = "release".toList then (parseLine a).map fun L => [.release L]
    else if m = "settimeout".toList then (parseValue a).map fun v => [.wrcfg .timeout v]
    else none
  | [m, a, b] =>
    if m = "cfgout".toList then (parseLine a).bind fun L => (parseLevel b).map fun f => [.cfgout L f]
    else if m = "setlvl".toList then (parseLine a).bind fun L => (parseLevel b).map fun f => [.setlvl L f]
    else if m = "armedge".toList then (parseLine a).bind fun L => (parseEdge b).map fun e => [.armedge L e]
    else if m = "waitedge".toList ∧ b = "timeout".toList then (parseLine a).map fun L => [.waitedge L true]
    else if m = "wrcfg".toList then (parseReg a).bind fun r => (parseValue b).map fun v => [.wrcfg r v]
    else none
  | _ => none

/-- The words one line of assembly stands for, none where the assembler refuses it (30_encoding.md R69, R70). -/
def assemble (line : String) : Option (List Word) :=
  (parseCommand (splitWords line.toList [])).map fun is => is.map encode

end Sys2Proof.Machine
end

