-- ==== Sys2Proof/Safety.lean ====
section
/-! DEFINITION. The terms claims are made in: what a transition keeps, what a response and an EnterFault leave, quiet
inputs, the levels a line will show, the duties of the peers as predicates, the lines of assembly the spec writes, and
the machine's invariant. -/

namespace Sys2Proof.Machine

/-! ## What a transition keeps -/

/-- The synchroniser and `ref` of line `L` have sampled its pad (10_state.md R15, R22, R23). -/
def State.lineSampled (s t : State) (L : LineId) : Prop :=
  (t.line L).s1 = s.padLevel L ∧ (t.line L).s2 = (s.line L).s1 ∧ (t.line L).ref = (s.line L).s2

/-- Line `L` is as before but for the always-running updates: its `seen` is the detector's (10_state.md R24). -/
def State.lineKept (s t : State) (L : LineId) : Prop :=
  (t.line L).claimed = (s.line L).claimed ∧ (t.line L).dir = (s.line L).dir ∧ (t.line L).lvl = (s.line L).lvl ∧
  (t.line L).armed = (s.line L).armed ∧ (t.line L).esel = (s.line L).esel ∧
  (t.line L).seen = ((s.line L).seen || ((s.line L).armed && (s.line L).edge)) ∧ s.lineSampled t L

/-- Line `L` is as before but for its level, which is `v`, and the always-running updates. -/
def State.lineDriven (s t : State) (L : LineId) (v : Level) : Prop :=
  (t.line L).claimed = (s.line L).claimed ∧ (t.line L).dir = (s.line L).dir ∧ (t.line L).lvl = v ∧
  (t.line L).armed = (s.line L).armed ∧ (t.line L).esel = (s.line L).esel ∧
  (t.line L).seen = ((s.line L).seen || ((s.line L).armed && (s.line L).edge)) ∧ s.lineSampled t L

/-- Line `L` is as before but disarmed with `seen` cleared, and the synchroniser's sampling (40_signal_line.md R78). -/
def State.lineDisarmed (s t : State) (L : LineId) : Prop :=
  (t.line L).claimed = (s.line L).claimed ∧ (t.line L).dir = (s.line L).dir ∧ (t.line L).lvl = (s.line L).lvl ∧
  (t.line L).armed = false ∧ (t.line L).esel = (s.line L).esel ∧ (t.line L).seen = false ∧ s.lineSampled t L

/-- SETTLE, INTPULSE and TIMEOUT are as before. -/
def State.regsKept (s t : State) : Prop :=
  t.settle = s.settle ∧ t.intpulse = s.intpulse ∧ t.timeout = s.timeout

/-- `bytecount` and `last_level` are as before. -/
def State.countersKept (s t : State) : Prop := t.bytecount = s.bytecount ∧ t.lastLevel = s.lastLevel

/-- The FSM's working registers and `op` are as before. -/
def State.workKept (s t : State) : Prop :=
  t.op = s.op ∧ t.pat = s.pat ∧ t.bitidx = s.bitidx ∧ t.cnt = s.cnt ∧ t.wcnt = s.wcnt ∧ t.wline = s.wline ∧
  t.wto = s.wto

/-- `fault` and `fault_code` are as before. -/
def State.faultKept (s t : State) : Prop := t.fault = s.fault ∧ t.faultCode = s.faultCode

/-- The inputs have moved on by one cycle. -/
def State.inputsAdvanced (s t : State) : Prop := t.env = s.env.tail ∧ t.cycle = s.cycle + 1

/-- No response: `rsp_valid` is 0 and the other response registers are as before (10_state.md R37, R38). -/
def State.silent (s t : State) : Prop :=
  t.rspValid = false ∧ t.rspStatus = s.rspStatus ∧ t.rspData = s.rspData ∧ t.lastStatus = s.lastStatus

/-- What `respond(c, d)` leaves (00_scope.md R12). -/
def State.answered (t : State) (c : Status) (d : Data) : Prop :=
  t.rspValid = true ∧ t.rspStatus = c ∧ t.rspData = d ∧ t.lastStatus = c ∧ t.st = .idle

/-- The response and nothing else: what a command that changes no line and no register leaves, and what an error that is
not fatal leaves (60_exceptions.md R128, R129). -/
def State.onlyAnswered (s t : State) (c : Status) (d : Data) : Prop :=
  t.answered c d ∧ (∀ L, s.lineKept t L) ∧ s.regsKept t ∧ s.countersKept t ∧ s.workKept t ∧ s.faultKept t ∧
  s.inputsAdvanced t

/-- The level a line has after EnterFault (60_exceptions.md R130). -/
def State.faultLevel (s : State) (L : LineId) : Level :=
  if (L = .clock ∨ L = .latch) ∧ (s.line L).isOutput then false
  else if L = .interrupt ∧ (s.line L).isOutput then true
  else (s.line L).lvl

/-- What EnterFault leaves, the response apart (60_exceptions.md R130). -/
def State.faultEntered (s t : State) (c : Status) : Prop :=
  t.fault = true ∧ t.faultCode = c ∧ t.st = .fault ∧
  (∀ L, (t.line L).claimed = (s.line L).claimed ∧ (t.line L).dir = (s.line L).dir ∧
    (t.line L).lvl = s.faultLevel L ∧ (t.line L).armed = false ∧ (t.line L).esel = (s.line L).esel ∧
    (t.line L).seen = false ∧ s.lineSampled t L) ∧
  s.regsKept t ∧ s.countersKept t ∧ s.workKept t ∧ s.inputsAdvanced t

/-- The response of a command that a fatal error ends (60_exceptions.md R130). -/
def State.faultAnswered (t : State) (c : Status) : Prop :=
  t.rspValid = true ∧ t.rspStatus = c ∧ t.rspData = 0 ∧ t.lastStatus = c

/-- The external register is as before: a command's transition does not touch it, the step around it does. -/
def State.extKept (s t : State) : Prop := t.ext = s.ext

/-- The lines a command needs are not there: claimed already, not claimed, claimed the wrong way, or owned by the link or
the channel (60_exceptions.md R135 point 2, 40_signal_line.md R73 to R77, 41_shift_register_link.md R81,
42_handshake.md R97, 44_transmit_cycle.md R115). -/
def State.linesMissing (s : State) : Instr → Prop
  | .cfgout L _ => (s.line L).claimed = true ∨ L = .ack
  | .cfgin L => (s.line L).claimed = true ∨ L = .data ∨ L = .clock ∨ L = .latch ∨ L = .interrupt
  | .setlvl L _ => isRole L = true ∨ (s.line L).claimed = false ∨ (s.line L).dir = .input
  | .armedge L _ => isRole L = true ∨ (s.line L).claimed = false ∨ (s.line L).dir = .output
  | .waitedge L _ => isRole L = true ∨ (s.line L).claimed = false ∨ (s.line L).dir = .output
  | .send _ => ∃ L, (L = .data ∨ L = .clock ∨ L = .latch) ∧ ((s.line L).claimed = false ∨ (s.line L).dir = .input)
  | .hshake => (s.line .interrupt).claimed = false ∨ (s.line .interrupt).dir = .input ∨
      (s.line .ack).claimed = false ∨ (s.line .ack).dir = .output
  | .xmit _ => (∃ L, (L = .data ∨ L = .clock ∨ L = .latch ∨ L = .interrupt) ∧
      ((s.line L).claimed = false ∨ (s.line L).dir = .input)) ∨
      (s.line .ack).claimed = false ∨ (s.line .ack).dir = .output
  | .nop | .quant _ | .wrcfg _ _ | .rdcfg _ | .release _ => False

/-! ## Inputs of the coming cycles -/

/-- No reset and no line fault `j` cycles from now, for the lines claimed now. -/
def State.quietAt (s : State) (j : Nat) : Prop :=
  (s.inpAt j).rst = false ∧ ∀ L, (s.line L).claimed = true → padBit (s.inpAt j).padFault L = false

/-- No reset and no line fault in this cycle and the `k - 1` after it. -/
def State.quietFor (s : State) (k : Nat) : Prop := ∀ j, j < k → s.quietAt j

/-- No `cancel` in this cycle and the `k - 1` after it. -/
def State.uncancelledFor (s : State) (k : Nat) : Prop := ∀ j, j < k → (s.inpAt j).cancel = false

/-- The level on pad `L` `j` cycles from now, for as long as the line keeps its claim, its direction and its level: the
level it drives, or what the outside puts there (10_state.md R15, R17). -/
def State.padLevelAt (s : State) (L : LineId) (j : Nat) : Level :=
  if s.padOe L then s.padOut L else padBit (s.inpAt j).padExt L

/-- The synchronised level of line `L` in the cycle before this one (`j = 0`), in this one (`j = 1`) and on: `ref`, `s2`,
`s1`, then the pad's level, two cycles late (10_state.md R22, R23), for as long as the line keeps its claim, its
direction and its level. -/
def State.syncAt (s : State) (L : LineId) : Nat → Level
  | 0 => (s.line L).ref
  | 1 => (s.line L).s2
  | 2 => (s.line L).s1
  | j + 3 => s.padLevelAt L j

/-- The edge the line's selector names falls `j` cycles from now (10_state.md R23, 42_handshake.md R106). -/
def State.edgeAt (s : State) (L : LineId) (j : Nat) : Bool :=
  match (s.line L).esel with
  | .falling => s.syncAt L j && !s.syncAt L (j + 1)
  | .rising => !s.syncAt L j && s.syncAt L (j + 1)

/-! ## Duties of the peers, as predicates -/

/-- The five role lines are claimed, and clock and latch rest LOW: what the boot sequence leaves before the first byte
(70_reset_and_hazards.md R150). -/
def State.linkReady (s : State) : Prop :=
  s.linkClaimed = true ∧ s.channelClaimed = true ∧ (s.line .clock).lvl = false ∧ (s.line .latch).lvl = false

/-- SETTLE meets the peripheral's minimum clock-pulse width (70_reset_and_hazards.md R153). -/
def State.settleLegal (s : State) : Prop := Config.tPeriphMinPulse.toNat ≤ s.settle.toNat

/-- The peripheral may read the external register's outputs: the latch line is LOW (70_reset_and_hazards.md R152). -/
def State.outputsReadable (s : State) : Prop := s.padLevel .latch = false

/-! ## Lines of assembly, as the spec writes them -/

/-- `c` is the digit of value `d`; the letters of a hex digit in either case, which is the model's choice (log 19). -/
def IsDigit (c : Char) (d : Nat) : Prop :=
  "0123456789abcdef".toList[d]? = some c ∨ "0123456789ABCDEF".toList[d]? = some c

/-- One digit or more, most significant first, and their value in a base. -/
inductive DigitsText (base : Nat) : List Char → Nat → Prop where
  | one {c : Char} {d : Nat} : IsDigit c d → d < base → DigitsText base [c] d
  | more {cs : List Char} {c : Char} {n d : Nat} : DigitsText base cs n → IsDigit c d → d < base →
      DigitsText base (cs ++ [c]) (n * base + d)

/-- A number without sign: decimal, `0x` hex or `0b` binary (30_encoding.md R69). -/
inductive NumberText : String → Nat → Prop where
  | dec {cs : List Char} {n : Nat} : DigitsText 10 cs n → NumberText (String.ofList cs) n
  | hex {cs : List Char} {n : Nat} : DigitsText 16 cs n → NumberText ("0x" ++ String.ofList cs) n
  | bin {cs : List Char} {n : Nat} : DigitsText 2 cs n → NumberText ("0b" ++ String.ofList cs) n

/-- A number with an optional leading `-` (30_encoding.md R69). -/
inductive SampleText : String → Int → Prop where
  | plain {t : String} {n : Nat} : NumberText t n → SampleText t n
  | minus {t : String} {n : Nat} : NumberText t n → SampleText ("-" ++ t) (-n)

/-- A line's name (30_encoding.md R69). -/
def lineName : LineId → String
  | .data => "data" | .clock => "clock" | .latch => "latch" | .interrupt => "interrupt"
  | .ack => "ack" | .gpio0 => "gpio0" | .gpio1 => "gpio1" | .gpio2 => "gpio2"

/-- A line: its name or a number 0 to 7 (30_encoding.md R69). -/
def LineText (a : String) (L : LineId) : Prop := a = lineName L ∨ NumberText a L.num

/-- A register: its name or a number 0 to 6 (30_encoding.md R69). -/
def RegText (a : String) : RegIndex → Prop
  | .settle => a = "settle" ∨ NumberText a 0
  | .intpulse => a = "intpulse" ∨ NumberText a 1
  | .timeout => a = "timeout" ∨ NumberText a 2
  | .laststat => a = "laststat" ∨ NumberText a 3
  | .linecfg => a = "linecfg" ∨ NumberText a 4
  | .linelvl => a = "linelvl" ∨ NumberText a 5
  | .xferinfo => a = "xferinfo" ∨ NumberText a 6
  | .reserved7 => False

/-- A level: `low` or `high`, `0` or `1` (30_encoding.md R69). -/
def LevelText (b : String) : Level → Prop
  | false => b = "low" ∨ b = "0"
  | true => b = "high" ∨ b = "1"

/-- An edge: `falling` or `rising` (30_encoding.md R69). -/
def EdgeText (b : String) : Edge → Prop
  | .falling => b = "falling"
  | .rising => b = "rising"

/-- The rows of the assembler's table: a line of text and its word, every operand fitting its field
(30_encoding.md R69). -/
inductive AsmRow : String → Word → Prop where
  | nop : AsmRow "nop" 0x00000000
  | cfgout {a b : String} {L : LineId} {f : Level} : LineText a L → LevelText b f →
      AsmRow ("cfgout " ++ a ++ ", " ++ b) (0x1#4 ++ L.bits ++ BitVec.ofBool f ++ 0#24)
  | cfgin {a : String} {L : LineId} : LineText a L → AsmRow ("cfgin " ++ a) (0x2#4 ++ L.bits ++ 0#1 ++ 0#24)
  | setlvl {a b : String} {L : LineId} {f : Level} : LineText a L → LevelText b f →
      AsmRow ("setlvl " ++ a ++ ", " ++ b) (0x3#4 ++ L.bits ++ BitVec.ofBool f ++ 0#24)
  | armedge {a b : String} {L : LineId} {e : Edge} : LineText a L → EdgeText b e →
      AsmRow ("armedge " ++ a ++ ", " ++ b) (0x4#4 ++ L.bits ++ BitVec.ofBool (e == .rising) ++ 0#24)
  | waitedge {a : String} {L : LineId} : LineText a L → AsmRow ("waitedge " ++ a) (0x5#4 ++ L.bits ++ 0#1 ++ 0#24)
  | waitedgeTimeout {a : String} {L : LineId} : LineText a L →
      AsmRow ("waitedge " ++ a ++ ", timeout") (0x5#4 ++ L.bits ++ 1#1 ++ 0#24)
  | send {t : String} {n : Nat} : NumberText t n → n ≤ 5 →
      AsmRow ("send " ++ t) (0x6#4 ++ 0#3 ++ 0#1 ++ BitVec.ofNat 24 n)
  | hshake : AsmRow "hshake" 0x70000000
  | quant {t : String} {z : Int} : SampleText t z → -(2 ^ 23) ≤ z → z ≤ 2 ^ 23 - 1 →
      AsmRow ("quant " ++ t) (0x8#4 ++ 0#3 ++ 0#1 ++ BitVec.ofInt 24 z)
  | xmit {t : String} {z : Int} : SampleText t z → -(2 ^ 23) ≤ z → z ≤ 2 ^ 23 - 1 →
      AsmRow ("xmit " ++ t) (0x9#4 ++ 0#3 ++ 0#1 ++ BitVec.ofInt 24 z)
  | wrcfg {a t : String} {r : RegIndex} {n : Nat} : RegText a r → NumberText t n → n < 2 ^ 24 →
      AsmRow ("wrcfg " ++ a ++ ", " ++ t) (0xA#4 ++ r.bits ++ 0#1 ++ BitVec.ofNat 24 n)
  | rdcfg {a : String} {r : RegIndex} : RegText a r → AsmRow ("rdcfg " ++ a) (0xB#4 ++ r.bits ++ 0#1 ++ 0#24)
  | release {a : String} {L : LineId} : LineText a L → AsmRow ("release " ++ a) (0xC#4 ++ L.bits ++ 0#1 ++ 0#24)

/-! ## Phases -/

/-- The states SEND and XMIT shift and latch in. -/
def FsmState.shifting : FsmState → Bool
  | .sData | .sClkH | .sClkL | .lHigh => true
  | .idle | .iPre | .iAssert | .iAwait | .wAwait | .fault => false

/-- The states a wait step runs in (40_signal_line.md R78). -/
def FsmState.waiting : FsmState → Bool
  | .iAwait | .wAwait => true
  | .idle | .sData | .sClkH | .sClkL | .lHigh | .iPre | .iAssert | .fault => false

/-! ## The invariant -/

/-- What holds of a line by itself, `s` given for the FSM state. -/
structure State.LineInv (s : State) (L : LineId) : Prop where
  /-- an unclaimed line has its reset fields (R19, 40_signal_line.md R80) -/
  unclaimed : (s.line L).claimed = false →
    (s.line L).dir = .input ∧ (s.line L).lvl = false ∧ (s.line L).armed = false ∧ (s.line L).esel = .falling
  /-- only a claimed input is armed (R19) -/
  armed : (s.line L).armed = true → (s.line L).isInput = true
  /-- an edge is remembered only while its line is armed (R24, 40_signal_line.md R79) -/
  seen : (s.line L).seen = true → (s.line L).armed = true
  /-- a role output line is claimed only as an output (R20, 40_signal_line.md R72) -/
  roleOut : roleIsOut L = true → (s.line L).claimed = true → (s.line L).dir = .output
  /-- ack is claimed only as an input (R20, 40_signal_line.md R72) -/
  roleIn : roleIsIn L = true → (s.line L).dir = .input

/-- The machine's invariant: it holds after reset and every step keeps it. -/
structure State.Inv (s : State) : Prop where
  /-- every line's own part -/
  line : ∀ L, s.LineInv L
  /-- `fault` is 1 exactly in FAULT (R39) -/
  faultFlag : s.fault = true ↔ s.st = .fault
  /-- `fault_code` names a fatal error exactly in FAULT, and is 0 elsewhere (R39) -/
  faultCode : if s.st = .fault then s.faultCode.isFatal = true else s.faultCode = .ok
  /-- SETTLE is at least 1 (R29) -/
  settle : s.settle ≠ 0
  /-- INTPULSE is at least 1 (R29) -/
  intpulse : s.intpulse ≠ 0
  /-- the pattern is a level, in [0, 5] (R28, 00_scope.md R9) -/
  pat : s.pat.toNat ≤ 5
  /-- so is the last level latched (R36) -/
  lastLevel : s.lastLevel.toNat ≤ 5
  /-- `rsp_valid` shows the completion of the cycle before: the block is idle again or in FAULT (R37) -/
  response : s.rspValid = true → s.lastStatus = s.rspStatus ∧ (s.st = .idle ∨ s.st = .fault)
  /-- a claimed interrupt line is LOW exactly during its pulse (42_handshake.md R96, R104, R105) -/
  interrupt : (s.line .interrupt).claimed = true → ((s.line .interrupt).lvl = false ↔ s.st = .iAssert)
  /-- ack is armed only by the handshake, for a falling edge (40_signal_line.md R76, 42_handshake.md R104) -/
  ackArmed : (s.line .ack).armed = true → s.st = .iAwait ∧ (s.line .ack).esel = .falling
  /-- while a byte is shifted, its lines are claimed and the command is SEND or XMIT (R26, 41_shift_register_link.md) -/
  shifting : s.st.shifting = true →
    s.linkClaimed = true ∧ (s.op = .send ∨ (s.op = .xmit ∧ s.channelClaimed = true))
  /-- I_PRE belongs to XMIT (R27) -/
  iPre : s.st = .iPre → s.op = .xmit ∧ s.channelClaimed = true
  /-- the handshake's states belong to HSHAKE and XMIT, with its lines claimed (R26, R27) -/
  handshake : s.st = .iAssert ∨ s.st = .iAwait → s.channelClaimed = true ∧ (s.op = .hshake ∨ s.op = .xmit)
  /-- I_AWAIT watches ack, armed (42_handshake.md R98, R99) -/
  iAwait : s.st = .iAwait → s.wline = .ack ∧ (s.line .ack).armed = true ∧ s.wto = (s.timeout != 0)
  /-- W_AWAIT watches an armed GPIO input (40_signal_line.md R77, R78) -/
  wAwait : s.st = .wAwait → s.op = .wait ∧ isRole s.wline = false ∧ (s.line s.wline).armed = true
  /-- a bounded wait has not run out (40_signal_line.md R78, 60_exceptions.md R140) -/
  bound : s.st.waiting = true → s.wto = true → s.wcnt.toNat < s.timeout.toNat
  /-- S_CLKH: the clock is HIGH and held at most SETTLE cycles (41_shift_register_link.md R83) -/
  clkHigh : s.st = .sClkH → (s.line .clock).lvl = true ∧ 1 ≤ s.cnt.toNat ∧ s.cnt.toNat ≤ s.settle.toNat
  /-- S_CLKL: the clock is LOW and held at most SETTLE cycles (41_shift_register_link.md R84) -/
  clkLow : s.st = .sClkL → (s.line .clock).lvl = false ∧ 1 ≤ s.cnt.toNat ∧ s.cnt.toNat ≤ s.settle.toNat
  /-- L_HIGH: the latch is HIGH and the clock LOW, after the last bit (41_shift_register_link.md R85, R88) -/
  latchHigh : s.st = .lHigh → (s.line .latch).lvl = true ∧ (s.line .clock).lvl = false ∧ s.bitidx = 0 ∧
    1 ≤ s.cnt.toNat ∧ s.cnt.toNat ≤ s.settle.toNat
  /-- I_ASSERT is held at most INTPULSE cycles (42_handshake.md R98) -/
  pulse : s.st = .iAssert → 1 ≤ s.cnt.toNat ∧ s.cnt.toNat ≤ s.intpulse.toNat
  /-- the data line shows the bit being shifted (41_shift_register_link.md R82, R89) -/
  dataBit : s.st.shifting = true → (s.line .data).lvl = s.pat.getLsbD s.bitidx.toNat

end Sys2Proof.Machine
end

