-- ==== Sys2Proof/Certificates/Slice0/Obligations.lean ====
section
/-! DEFINITION. What is claimed of the model, one definition for each statement; OBLIGATIONS.json lists them in this
order with the rules of spec/ they formalise. -/

open Sys2Proof Sys2Proof.Machine

/-! ## Encoding -/

/-- 30_encoding.md R63, R69: decoding the word of a command gives the command back, with every operand at every value its
field admits. -/
def Obligations.DecodeOfEncode : Prop := ∀ i : Instr, decode (encode i) = .ok i

/-- 30_encoding.md R64, R67: a word that decodes to a command is that command's word, so no bit of it is dropped. -/
def Obligations.EncodeOfDecode : Prop := ∀ (w : Word) (i : Instr), decode w = .ok i → encode i = w

/-- 30_encoding.md R64, R66, R67: a word decodes to a command of a row exactly when it matches the row's bit pattern; a word
that matches no row is rejected for a nonzero should-be-zero field or for a reserved opcode. -/
def Obligations.DecodeFollowsTheBitPatterns : Prop :=
  ∀ w : Word,
    (∀ i, decode w = .ok i → ∃ r ∈ opcodeRows, r.mnemonic = i.mnemonic ∧ w &&& r.mask = r.pattern) ∧
    (∀ r ∈ opcodeRows, w &&& r.mask = r.pattern → ∃ i, decode w = .ok i ∧ i.mnemonic = r.mnemonic) ∧
    (decode w = .error .nonzeroSbz ↔
      (opField w).toNat ≤ 12 ∧ ∀ r ∈ opcodeRows, w &&& r.mask ≠ r.pattern) ∧
    (decode w = .error .reservedOpcode ↔ 13 ≤ (opField w).toNat)

/-- 95_test_vectors.md section 2, words written out from the spec: at least one of each command decodes to it. -/
def Obligations.SpecWordsDecode : Prop :=
  decode 0x00000000 = .ok .nop ∧ decode 0x1C000000 = .ok (.cfgout .gpio1 false) ∧
  decode 0x17000000 = .ok (.cfgout .interrupt true) ∧ decode 0x2A000000 = .ok (.cfgin .gpio0) ∧
  decode 0x3D000000 = .ok (.setlvl .gpio1 true) ∧ decode 0x4B000000 = .ok (.armedge .gpio0 .rising) ∧
  decode 0x5B000000 = .ok (.waitedge .gpio0 true) ∧ decode 0x60000005 = .ok (.send 5) ∧
  decode 0x70000000 = .ok .hshake ∧ decode 0x80FFFFFB = .ok (.quant (BitVec.ofInt 24 (-5))) ∧
  decode 0x9000012C = .ok (.xmit 300) ∧ decode 0xA40003E8 = .ok (.wrcfg .timeout 1000) ∧
  decode 0xBC000000 = .ok (.rdcfg .xferinfo) ∧ decode 0xC8000000 = .ok (.release .ack)

/-- 30_encoding.md R69, R70: every line of the assembler's table gives its row's word, every pseudo-instruction the words
listed for it, and every word of a line that is taken decodes; a sample, a register value, a SEND level, a line number or a
register number that does not fit is refused. How blanks and hex digits are written is the model's choice (log 19). -/
def Obligations.AssemblerEmitsCommands : Prop :=
  (∀ (line : String) (w : Word), AsmRow line w → assemble line = some [w]) ∧
  assemble "linkinit" = some [0x10000000, 0x12000000, 0x14000000, 0x17000000, 0x28000000] ∧
  assemble "linkdown" = some [0xC0000000, 0xC2000000, 0xC4000000, 0xC6000000, 0xC8000000] ∧
  assemble "rdstat" = some [0xB6000000] ∧
  (∀ (t : String) (n : Nat), NumberText t n → n < 2 ^ 24 →
    assemble ("settimeout " ++ t) = some [0xA4000000 + BitVec.ofNat 32 n]) ∧
  (∀ (line : String) (ws : List Word), assemble line = some ws → ∀ w ∈ ws, ∃ i, decode w = .ok i) ∧
  (∀ (t : String) (z : Int), SampleText t z →
    (z < -(2 ^ 23) ∨ 2 ^ 23 - 1 < z → assemble ("quant " ++ t) = none ∧ assemble ("xmit " ++ t) = none) ∧
    (z < 0 ∨ 5 < z → assemble ("send " ++ t) = none) ∧
    (z < 0 ∨ 2 ^ 24 - 1 < z → assemble ("settimeout " ++ t) = none ∧
      ∀ a r, RegText a r → assemble ("wrcfg " ++ a ++ ", " ++ t) = none)) ∧
  (∀ (t : String) (n : Nat), NumberText t n →
    (7 < n → (∀ m ∈ ["cfgin ", "waitedge ", "release "], assemble (m ++ t) = none) ∧
      ∀ m ∈ ["cfgout ", "setlvl ", "armedge ", "waitedge "], ∀ b, assemble (m ++ t ++ ", " ++ b) = none) ∧
    (6 < n → assemble ("rdcfg " ++ t) = none ∧ ∀ b, assemble ("wrcfg " ++ t ++ ", " ++ b) = none))

/-! ## Reset -/

/-- 70_reset_and_hazards.md R145, R148: the state right after reset, every value the spec gives; `s1`, `s2`, `ref` and the
external register are the model's choice (logs 4 and 5) and are not stated. -/
def Obligations.ResetStateValues : Prop :=
  State.reset.st = .idle ∧ State.reset.op = .send ∧ State.reset.pat = 0 ∧ State.reset.bitidx = 0 ∧
  State.reset.cnt = 0 ∧ State.reset.wcnt = 0 ∧ State.reset.wline = .data ∧ State.reset.wto = false ∧
  (∀ L, (State.reset.line L).claimed = false ∧ (State.reset.line L).dir = .input ∧
    (State.reset.line L).lvl = false ∧ (State.reset.line L).armed = false ∧
    (State.reset.line L).esel = .falling ∧ (State.reset.line L).seen = false ∧ State.reset.padOe L = false) ∧
  State.reset.settle.toNat = settleRst Config.clkFreqHz ∧
  State.reset.intpulse.toNat = intpulseRst Config.clkFreqHz ∧ State.reset.timeout = 0 ∧
  State.reset.lastStatus = .ok ∧ State.reset.bytecount = 0 ∧ State.reset.lastLevel = 0 ∧
  State.reset.rspValid = false ∧ State.reset.rspStatus = .ok ∧ State.reset.rspData = 0 ∧
  State.reset.fault = false ∧ State.reset.faultCode = .ok

/-- 70_reset_and_hazards.md R145: in any cycle with `rst = 1`, whatever the state, every state element takes its reset value;
the synchronisers and `ref` go on sampling; no response is given and no command is ready to be taken. -/
def Obligations.ResetTransition : Prop :=
  ∀ s : State, s.inp.rst = true → s.cmdReady = false ∧ ∃ t, step s = .next t ∧
    t.st = .idle ∧ t.op = .send ∧ t.pat = 0 ∧ t.bitidx = 0 ∧ t.cnt = 0 ∧ t.wcnt = 0 ∧ t.wline = .data ∧
    t.wto = false ∧
    (∀ L, (t.line L).claimed = false ∧ (t.line L).dir = .input ∧ (t.line L).lvl = false ∧
      (t.line L).armed = false ∧ (t.line L).esel = .falling ∧ (t.line L).seen = false ∧ s.lineSampled t L) ∧
    t.settle.toNat = settleRst Config.clkFreqHz ∧ t.intpulse.toNat = intpulseRst Config.clkFreqHz ∧ t.timeout = 0 ∧
    t.lastStatus = .ok ∧ t.bytecount = 0 ∧ t.lastLevel = 0 ∧ t.rspValid = false ∧ t.rspStatus = .ok ∧
    t.rspData = 0 ∧ t.fault = false ∧ t.faultCode = .ok ∧ s.inputsAdvanced t

/-! ## Invariant -/

/-- The machine's invariant holds after reset. -/
def Obligations.InvariantAtReset : Prop := State.reset.Inv

/-- Every step keeps the machine's invariant (10_state.md R19, R20, R24, R26 to R31, R36, R37, R39,
41_shift_register_link.md R82 to R85, 42_handshake.md R96, R98, R104, R105, 40_signal_line.md R72, R77 to R80). -/
def Obligations.StepKeepsInvariant : Prop := ∀ s t : State, s.Inv → step s = .next t → t.Inv

/-! ## Every cycle -/

/-- 60_exceptions.md R134: every cycle has a transition: the machine never stops, whatever the state and the inputs. -/
def Obligations.EveryStepAnswers : Prop := ∀ s : State, ∃ t, step s = .next t

/-- 60_exceptions.md R134 case 4, 10_state.md R18: a step that accepts a word runs the command the word decodes to, with
the external register's transition beside it. -/
def Obligations.StepRunsTheAcceptedCommand : Prop :=
  ∀ (s t : State) (i : Instr), s.st = .idle → s.quietAt 0 → s.inp.cmdValid = true → decode s.inp.cmd = .ok i →
    exec i s = .next t → step s = .next { t with ext := nextExt s t }

/-- 30_encoding.md R64, R66, 60_exceptions.md R128, R129: an accepted word that is no command is answered ILLEGAL_COMMAND,
and nothing else changes. -/
def Obligations.IllegalWordsAreAnswered : Prop :=
  ∀ (s : State) (e : DecodeError), s.st = .idle → s.quietAt 0 → s.inp.cmdValid = true →
    decode s.inp.cmd = .error e → ∃ t, step s = .next t ∧ s.onlyAnswered t .illegalCommand 0

/-- 60_exceptions.md R134 case 5: IDLE with no command changes nothing but the always-running updates. -/
def Obligations.IdleWithNoCommandHolds : Prop :=
  ∀ s : State, s.st = .idle → s.quietAt 0 → s.inp.cmdValid = false → ∃ t, step s = .next t ∧
    t.st = .idle ∧ s.silent t ∧ (∀ L, s.lineKept t L) ∧ s.regsKept t ∧ s.countersKept t ∧ s.workKept t ∧
    s.faultKept t ∧ s.inputsAdvanced t

/-- 10_state.md R22, R23: in every cycle, whatever the reset and the state, `s1`, `s2` and `ref` sample, so a pad's level is
seen two cycles later and is the previous level three cycles later. The level is the block's own where it drives the pad,
and the outside's where it does not (R15, R17). -/
def Obligations.SynchronisersAlwaysSample : Prop :=
  (∀ s t : State, step s = .next t → ∀ L, s.lineSampled t L) ∧
  (∀ s t u v : State, step s = .next t → step t = .next u → step u = .next v →
    ∀ L, (v.line L).ref = (u.line L).s2 ∧
      ((s.line L).claimed = true ∧ (s.line L).dir = .output → (u.line L).s2 = (s.line L).lvl) ∧
      (¬((s.line L).claimed = true ∧ (s.line L).dir = .output) → (u.line L).s2 = padBit s.inp.padExt L))

/-- 10_state.md R24: while no command is accepted, the detector of every line but the one a wait or the end of I_ASSERT
writes latches its armed edge, and `seen` stays 1 once set. -/
def Obligations.EdgesAreLatched : Prop :=
  ∀ (s t : State) (L : LineId), s.quietAt 0 → s.accepts = false → s.st ≠ .fault →
    ¬(s.st.waiting = true ∧ s.wline = L) → ¬(s.st = .iAssert ∧ L = .ack) → step s = .next t →
    (t.line L).seen = ((s.line L).seen || ((s.line L).armed && (s.line L).edge)) ∧
    (t.line L).armed = (s.line L).armed ∧ (t.line L).esel = (s.line L).esel ∧
    (t.line L).claimed = (s.line L).claimed ∧ (t.line L).dir = (s.line L).dir

/-- 10_state.md R37, R38: `rsp_valid` is 1 just after a cycle that completes a command: one that accepted a command or was
busy, and leaves the block idle or in FAULT; so it is 1 for one cycle, unless that cycle itself accepts a command. A
response writes the last status; in a cycle without one the response registers keep their values. -/
def Obligations.ResponsesLastOneCycle : Prop :=
  (∀ s t : State, step s = .next t →
    (t.rspValid = true ↔
      s.inp.rst = false ∧ (s.accepts = true ∨ s.busy = true) ∧ (t.st = .idle ∨ t.st = .fault)) ∧
    (t.rspValid = true → t.lastStatus = t.rspStatus) ∧
    (t.rspValid = false → s.inp.rst = false →
      t.rspStatus = s.rspStatus ∧ t.rspData = s.rspData ∧ t.lastStatus = s.lastStatus)) ∧
  ∀ s t u : State, step s = .next t → t.rspValid = true → t.accepts = false → step t = .next u → u.rspValid = false

/-- 60_exceptions.md R131: while in FAULT without reset no command is ready to be taken and every register keeps its value,
but the synchronisers, `ref`, and `rsp_valid`, which is 0. -/
def Obligations.FaultHoldsUntilReset : Prop :=
  ∀ s : State, s.st = .fault → s.inp.rst = false → s.cmdReady = false ∧ ∃ t, step s = .next t ∧
    t.st = .fault ∧ s.silent t ∧
    (∀ L, (t.line L).claimed = (s.line L).claimed ∧ (t.line L).dir = (s.line L).dir ∧
      (t.line L).lvl = (s.line L).lvl ∧ (t.line L).armed = (s.line L).armed ∧ (t.line L).esel = (s.line L).esel ∧
      (t.line L).seen = (s.line L).seen ∧ s.lineSampled t L) ∧
    s.regsKept t ∧ s.countersKept t ∧ s.workKept t ∧ s.faultKept t ∧ s.inputsAdvanced t

/-- 60_exceptions.md R130, R132, R133: a fault reported on a claimed line is EnterFault(LINE_FAULT); a command accepted or in
progress is answered LINE_FAULT, and IDLE with no command enters FAULT without a response. -/
def Obligations.LineFaultEntersFault : Prop :=
  ∀ (s : State) (L : LineId), s.inp.rst = false → s.st ≠ .fault → (s.line L).claimed = true →
    padBit s.inp.padFault L = true → ∃ t, step s = .next t ∧ s.faultEntered t .lineFault ∧
      (s.st ≠ .idle ∨ s.inp.cmdValid = true → t.faultAnswered .lineFault) ∧
      (s.st = .idle → s.inp.cmdValid = false → s.silent t)

/-! ## What a cycle does not depend on -/

/-- 60_exceptions.md R132: a report on an unclaimed line is ignored: without one on a claimed line, a cycle does not depend on
`pad_fault`. -/
def Obligations.UnclaimedFaultsAreIgnored : Prop :=
  ∀ (s : State) (i : Inputs) (rest : List Inputs), s.env = i :: rest →
    (∀ L, (s.line L).claimed = true → padBit i.padFault L = false) →
    step { s with env := { i with padFault := 0 } :: rest } = step s

/-- 60_exceptions.md R136: outside the wait states a cycle does not depend on `cancel`. -/
def Obligations.CancelActsOnlyInWaits : Prop :=
  ∀ (s : State) (i : Inputs) (rest : List Inputs) (b : Bool), s.env = i :: rest → s.st.waiting = false →
    step { s with env := { i with cancel := b } :: rest } = step s

/-- 70_reset_and_hazards.md R158, 10_state.md R18: a cycle that accepts no command does not depend on `cmd`, and a busy block
does not depend on `cmd_valid` either: an offer can be changed or withdrawn. -/
def Obligations.CommandIsReadOnlyWhenAccepted : Prop :=
  ∀ (s : State) (i : Inputs) (rest : List Inputs) (w : Word) (b : Bool), s.env = i :: rest →
    (s.accepts = false → step { s with env := { i with cmd := w } :: rest } = step s) ∧
    (s.st ≠ .idle → step { s with env := { i with cmd := w, cmdValid := b } :: rest } = step s)

/-! ## The commands, where they complete -/

/-- 45_control.md R121: NOP responds OK with data 0 and changes nothing else. -/
def Obligations.NopResponds : Prop :=
  ∀ s : State, ∃ t, exec .nop s = .next t ∧ s.onlyAnswered t .ok 0 ∧ s.extKept t

/-- 40_signal_line.md R73: CFGOUT claims an unclaimed line as an output at its level, disarmed, and responds OK; every other
line and register is as before. The interrupt line is claimed HIGH only, ack not at all. -/
def Obligations.CfgoutClaimsAnOutput : Prop :=
  ∀ (L : LineId) (f : Level) (s : State), ¬(L = .interrupt ∧ f = false) → L ≠ .ack → (s.line L).claimed = false →
    ∃ t, exec (.cfgout L f) s = .next t ∧ t.answered .ok 0 ∧
      (t.line L).claimed = true ∧ (t.line L).dir = .output ∧ (t.line L).lvl = f ∧ (t.line L).armed = false ∧
      (t.line L).esel = .falling ∧ (t.line L).seen = false ∧ s.lineSampled t L ∧
      (∀ M, M ≠ L → s.lineKept t M) ∧ t.padOe L = true ∧ t.padOut L = f ∧
      s.regsKept t ∧ s.countersKept t ∧ s.workKept t ∧ s.faultKept t ∧ s.inputsAdvanced t ∧ s.extKept t

/-- 40_signal_line.md R74: CFGIN claims an unclaimed line as an input, disarmed, and responds OK; every other line and register
is as before. The role lines but ack are not claimed so. -/
def Obligations.CfginClaimsAnInput : Prop :=
  ∀ (L : LineId) (s : State), (L = .ack ∨ L = .gpio0 ∨ L = .gpio1 ∨ L = .gpio2) → (s.line L).claimed = false →
    ∃ t, exec (.cfgin L) s = .next t ∧ t.answered .ok 0 ∧
      (t.line L).claimed = true ∧ (t.line L).dir = .input ∧ (t.line L).lvl = false ∧ (t.line L).armed = false ∧
      (t.line L).esel = .falling ∧ (t.line L).seen = false ∧ s.lineSampled t L ∧
      (∀ M, M ≠ L → s.lineKept t M) ∧ t.padOe L = false ∧
      s.regsKept t ∧ s.countersKept t ∧ s.workKept t ∧ s.faultKept t ∧ s.inputsAdvanced t ∧ s.extKept t

/-- 40_signal_line.md R75: SETLVL drives a claimed GPIO output to its level and responds OK; every other line and register is as
before. -/
def Obligations.SetlvlDrivesALine : Prop :=
  ∀ (L : LineId) (f : Level) (s : State), isRole L = false → (s.line L).claimed = true → (s.line L).dir = .output →
    ∃ t, exec (.setlvl L f) s = .next t ∧ t.answered .ok 0 ∧ s.lineDriven t L f ∧ t.padOut L = f ∧
      (∀ M, M ≠ L → s.lineKept t M) ∧
      s.regsKept t ∧ s.countersKept t ∧ s.workKept t ∧ s.faultKept t ∧ s.inputsAdvanced t ∧ s.extKept t

/-- 40_signal_line.md R76: ARMEDGE arms a claimed GPIO input for its edge, discards a pending one, even one of this cycle, and
responds OK; every other line and register is as before. -/
def Obligations.ArmedgeArmsALine : Prop :=
  ∀ (L : LineId) (e : Edge) (s : State), isRole L = false → (s.line L).claimed = true → (s.line L).dir = .input →
    ∃ t, exec (.armedge L e) s = .next t ∧ t.answered .ok 0 ∧
      (t.line L).claimed = true ∧ (t.line L).dir = .input ∧ (t.line L).lvl = (s.line L).lvl ∧
      (t.line L).armed = true ∧ (t.line L).esel = e ∧ (t.line L).seen = false ∧ s.lineSampled t L ∧
      (∀ M, M ≠ L → s.lineKept t M) ∧
      s.regsKept t ∧ s.countersKept t ∧ s.workKept t ∧ s.faultKept t ∧ s.inputsAdvanced t ∧ s.extKept t

/-- 40_signal_line.md R77: WAITEDGE on an armed GPIO input starts a wait, bounded where enabled and TIMEOUT is not 0, with no
response; every line is as before, the detectors running. -/
def Obligations.WaitedgeStartsAWait : Prop :=
  ∀ (L : LineId) (f : Bool) (s : State), isRole L = false → (s.line L).claimed = true → (s.line L).dir = .input →
    (s.line L).armed = true →
    ∃ t, exec (.waitedge L f) s = .next t ∧ t.st = .wAwait ∧ t.op = .wait ∧ t.wline = L ∧ t.wcnt = 0 ∧
      (t.wto = true ↔ f = true ∧ s.timeout ≠ 0) ∧ s.silent t ∧ (∀ M, s.lineKept t M) ∧
      t.pat = s.pat ∧ t.bitidx = s.bitidx ∧ t.cnt = s.cnt ∧
      s.regsKept t ∧ s.countersKept t ∧ s.faultKept t ∧ s.inputsAdvanced t ∧ s.extKept t

/-- 41_shift_register_link.md R81: SEND of a level at most 5, with data, clock and latch claimed outputs, starts to shift its
pattern: the data line shows the most significant bit, nothing is answered yet, every other line is as before. -/
def Obligations.SendStartsShifting : Prop :=
  ∀ (v : Data) (s : State), v.toNat ≤ 5 →
    (∀ L, (L = .data ∨ L = .clock ∨ L = .latch) → (s.line L).claimed = true ∧ (s.line L).dir = .output) →
    ∃ t, exec (.send v) s = .next t ∧ t.st = .sData ∧ t.op = .send ∧ t.pat.toNat = v.toNat ∧ t.bitidx = 7 ∧
      s.lineDriven t .data false ∧ (∀ M, M ≠ .data → s.lineKept t M) ∧ s.silent t ∧
      t.cnt = s.cnt ∧ t.wcnt = s.wcnt ∧ t.wline = s.wline ∧ t.wto = s.wto ∧
      s.regsKept t ∧ s.countersKept t ∧ s.faultKept t ∧ s.inputsAdvanced t ∧ s.extKept t

/-- 42_handshake.md R97: HSHAKE, with interrupt a claimed output and ack a claimed input, drives the interrupt LOW and starts
its pulse; nothing is answered yet, every other line is as before. -/
def Obligations.HshakeAssertsTheInterrupt : Prop :=
  ∀ s : State, (s.line .interrupt).claimed = true → (s.line .interrupt).dir = .output →
    (s.line .ack).claimed = true → (s.line .ack).dir = .input →
    ∃ t, exec .hshake s = .next t ∧ t.st = .iAssert ∧ t.op = .hshake ∧ t.cnt = 1 ∧
      s.lineDriven t .interrupt false ∧ (∀ M, M ≠ .interrupt → s.lineKept t M) ∧ s.silent t ∧
      t.pat = s.pat ∧ t.bitidx = s.bitidx ∧ t.wcnt = s.wcnt ∧ t.wline = s.wline ∧ t.wto = s.wto ∧
      s.regsKept t ∧ s.countersKept t ∧ s.faultKept t ∧ s.inputsAdvanced t ∧ s.extKept t

/-- 43_quantizer.md R113, R112: QUANT of a sample in [0, 255] answers its level and changes nothing else. -/
def Obligations.QuantAnswersTheLevel : Prop :=
  ∀ (v : Data) (s : State), 0 ≤ v.toInt → v.toInt ≤ 255 →
    ∃ t, exec (.quant v) s = .next t ∧ t.rspData.toNat = (quantize v.toInt).toNat ∧
      s.onlyAnswered t .ok t.rspData ∧ s.extKept t

/-- 44_transmit_cycle.md R115, R117: XMIT of a sample in [0, 255], with the five role lines claimed in their directions, starts
to shift its level's pattern: the data line shows bit 7, which is 0, nothing is answered yet, every other line is as before. -/
def Obligations.XmitStartsShifting : Prop :=
  ∀ (v : Data) (s : State), 0 ≤ v.toInt → v.toInt ≤ 255 →
    (∀ L, (L = .data ∨ L = .clock ∨ L = .latch ∨ L = .interrupt) →
      (s.line L).claimed = true ∧ (s.line L).dir = .output) →
    (s.line .ack).claimed = true → (s.line .ack).dir = .input →
    ∃ t, exec (.xmit v) s = .next t ∧ t.st = .sData ∧ t.op = .xmit ∧
      t.pat.toNat = (quantize v.toInt).toNat ∧ t.bitidx = 7 ∧
      s.lineDriven t .data false ∧ (∀ M, M ≠ .data → s.lineKept t M) ∧ s.silent t ∧
      t.cnt = s.cnt ∧ t.wcnt = s.wcnt ∧ t.wline = s.wline ∧ t.wto = s.wto ∧
      s.regsKept t ∧ s.countersKept t ∧ s.faultKept t ∧ s.inputsAdvanced t ∧ s.extKept t

/-- 45_control.md R122, 10_state.md R30 to R32: WRCFG writes SETTLE, INTPULSE (not 0) or TIMEOUT, leaves the other registers
and everything else as before, and responds OK. -/
def Obligations.WrcfgWritesARegister : Prop :=
  ∀ (r : RegIndex) (v : Data) (s : State), (r = .settle ∨ r = .intpulse ∨ r = .timeout) →
    (r ≠ .timeout → v ≠ 0) →
    ∃ t, exec (.wrcfg r v) s = .next t ∧ t.answered .ok 0 ∧
      t.settle = (if r = .settle then v else s.settle) ∧
      t.intpulse = (if r = .intpulse then v else s.intpulse) ∧
      t.timeout = (if r = .timeout then v else s.timeout) ∧ (∀ L, s.lineKept t L) ∧
      s.countersKept t ∧ s.workKept t ∧ s.faultKept t ∧ s.inputsAdvanced t ∧ s.extKept t

/-- 45_control.md R123, 10_state.md R30 to R36: RDCFG of an index other than 7 answers that register's value of this cycle and
changes nothing else; LASTSTAT shows the codes of 60_exceptions.md R127. -/
def Obligations.RdcfgAnswersTheRegister : Prop :=
  ∀ (r : RegIndex) (s : State), r ≠ .reserved7 →
    ∃ t, exec (.rdcfg r) s = .next t ∧ s.onlyAnswered t .ok t.rspData ∧ s.extKept t ∧
      (r = .settle → t.rspData = s.settle) ∧ (r = .intpulse → t.rspData = s.intpulse) ∧
      (r = .timeout → t.rspData = s.timeout) ∧
      (r = .laststat → t.rspData.toNat = match s.lastStatus with
        | .ok => 0 | .lineUnavailable => 1 | .lineFault => 2 | .timeout => 3 | .peripheralUnresponsive => 4
        | .outOfRange => 5 | .cancelled => 6 | .illegalCommand => 7) ∧
      (r = .linecfg → ∀ L, t.rspData.getLsbD (3 * L.num) = (s.line L).claimed ∧
        t.rspData.getLsbD (3 * L.num + 1) = ((s.line L).dir == .output) ∧
        t.rspData.getLsbD (3 * L.num + 2) = (s.line L).armed) ∧
      (r = .linelvl → ∀ L,
        t.rspData.getLsbD L.num =
          (if (s.line L).claimed then (if (s.line L).dir = .output then (s.line L).lvl else (s.line L).s2) else false) ∧
        t.rspData.getLsbD (8 + L.num) = (s.line L).seen ∧
        t.rspData.getLsbD (16 + L.num) = ((s.line L).esel == .rising)) ∧
      (r = .xferinfo → t.rspData.toNat = s.lastLevel.toNat * 2 ^ 16 + s.bytecount.toNat)

/-- 40_signal_line.md R80: RELEASE frees its line, claimed or not, and responds OK; every other line and register is as
before. -/
def Obligations.ReleaseFreesALine : Prop :=
  ∀ (L : LineId) (s : State), ∃ t, exec (.release L) s = .next t ∧ t.answered .ok 0 ∧
    (t.line L).claimed = false ∧ (t.line L).dir = .input ∧ (t.line L).lvl = false ∧ (t.line L).armed = false ∧
    (t.line L).esel = .falling ∧ (t.line L).seen = false ∧ s.lineSampled t L ∧ t.padOe L = false ∧
    (∀ M, M ≠ L → s.lineKept t M) ∧
    s.regsKept t ∧ s.countersKept t ∧ s.workKept t ∧ s.faultKept t ∧ s.inputsAdvanced t ∧ s.extKept t

/-! ## The commands, where they raise an error -/

/-- 30_encoding.md R65 (a) to (e), 60_exceptions.md R129, R135: a command that breaks a value constraint is answered
ILLEGAL_COMMAND before any other check, and nothing else changes. -/
def Obligations.IllegalValuesAreAnswered : Prop :=
  ∀ (i : Instr) (s : State), i.wellFormed = false →
    ∃ t, exec i s = .next t ∧ s.onlyAnswered t .illegalCommand 0 ∧ s.extKept t

/-- 60_exceptions.md R128, R130, R135: a well-formed command whose lines are not there is EnterFault(LINE_UNAVAILABLE), before
its sample or its armed line is looked at. -/
def Obligations.MissingLinesAreFatal : Prop :=
  ∀ (i : Instr) (s : State), i.wellFormed = true → s.linesMissing i →
    ∃ t, exec i s = .next t ∧ s.faultEntered t .lineUnavailable ∧ t.faultAnswered .lineUnavailable ∧ s.extKept t

/-- 43_quantizer.md R111, R113, 44_transmit_cycle.md R115: QUANT and XMIT, XMIT's lines being there, answer OUT_OF_RANGE to a
sample outside [0, 255], and nothing else changes. -/
def Obligations.OutOfRangeSamplesAreSkipped : Prop :=
  ∀ (v : Data) (s : State), v.toInt < 0 ∨ 255 < v.toInt →
    (∃ t, exec (.quant v) s = .next t ∧ s.onlyAnswered t .outOfRange 0 ∧ s.extKept t) ∧
    (¬ s.linesMissing (.xmit v) → ∃ t, exec (.xmit v) s = .next t ∧ s.onlyAnswered t .outOfRange 0 ∧ s.extKept t)

/-- 30_encoding.md R65 (f), 40_signal_line.md R77: WAITEDGE on a claimed GPIO input that is not armed is answered
ILLEGAL_COMMAND, and nothing else changes. -/
def Obligations.UnarmedWaitsAreAnswered : Prop :=
  ∀ (L : LineId) (f : Bool) (s : State), isRole L = false → (s.line L).claimed = true → (s.line L).dir = .input →
    (s.line L).armed = false →
    ∃ t, exec (.waitedge L f) s = .next t ∧ s.onlyAnswered t .illegalCommand 0 ∧ s.extKept t

/-! ## The quantizer -/

/-- 43_quantizer.md R107: the six levels, and the same as the number of thresholds at most the sample. -/
def Obligations.QuantizerThresholds : Prop :=
  ∀ v : Int, 0 ≤ v → v ≤ 255 →
    (v < 10 → quantize v = 0) ∧ (10 ≤ v → v < 20 → quantize v = 1) ∧ (20 ≤ v → v < 30 → quantize v = 2) ∧
    (30 ≤ v → v < 40 → quantize v = 3) ∧ (40 ≤ v → v < 50 → quantize v = 4) ∧ (50 ≤ v → quantize v = 5) ∧
    (quantize v).toNat = (([10, 20, 30, 40, 50] : List Int).filter (· ≤ v)).length

/-- 43_quantizer.md R108, R109: the closed form, monotonicity, that every level is reached, and where the levels change. -/
def Obligations.QuantizerClosedForm : Prop :=
  (∀ v : Nat, v ≤ 255 → (quantize v).toNat = if v < 50 then min 5 (v / 10) else 5) ∧
  (∀ v w : Int, 0 ≤ v → v ≤ w → w ≤ 255 → (quantize v).toNat ≤ (quantize w).toNat) ∧
  (∀ k : Nat, k ≤ 5 → ∃ v : Int, 0 ≤ v ∧ v ≤ 255 ∧ (quantize v).toNat = k) ∧
  (∀ v : Int, 1 ≤ v → v ≤ 255 →
    (quantize v ≠ quantize (v - 1) ↔ v = 10 ∨ v = 20 ∨ v = 30 ∨ v = 40 ∨ v = 50))

/-! ## The state machine, one cycle -/

/-- 41_shift_register_link.md R82: S_DATA raises the clock and goes to S_CLKH with `cnt` 1; everything else is as before. -/
def Obligations.SDataRaisesTheClock : Prop :=
  ∀ s : State, s.st = .sData → s.quietAt 0 → ∃ t, step s = .next t ∧
    t.st = .sClkH ∧ t.cnt = 1 ∧ s.lineDriven t .clock true ∧ (∀ M, M ≠ .clock → s.lineKept t M) ∧ s.silent t ∧
    t.op = s.op ∧ t.pat = s.pat ∧ t.bitidx = s.bitidx ∧ t.wcnt = s.wcnt ∧ t.wline = s.wline ∧ t.wto = s.wto ∧
    s.regsKept t ∧ s.countersKept t ∧ s.faultKept t ∧ s.inputsAdvanced t

/-- 41_shift_register_link.md R83: S_CLKH counts while `cnt < SETTLE`, then lowers the clock and goes to S_CLKL with `cnt` 1;
everything else is as before. -/
def Obligations.SClkHHoldsThenLowersTheClock : Prop :=
  ∀ s : State, s.st = .sClkH → s.quietAt 0 → ∃ t, step s = .next t ∧
    (s.cnt.toNat < s.settle.toNat → t.st = .sClkH ∧ t.cnt.toNat = s.cnt.toNat + 1 ∧ ∀ L, s.lineKept t L) ∧
    (s.settle.toNat ≤ s.cnt.toNat → t.st = .sClkL ∧ t.cnt = 1 ∧ s.lineDriven t .clock false ∧
      ∀ M, M ≠ .clock → s.lineKept t M) ∧
    s.silent t ∧ t.op = s.op ∧ t.pat = s.pat ∧ t.bitidx = s.bitidx ∧ t.wcnt = s.wcnt ∧ t.wline = s.wline ∧
    t.wto = s.wto ∧ s.regsKept t ∧ s.countersKept t ∧ s.faultKept t ∧ s.inputsAdvanced t

/-- 41_shift_register_link.md R84: S_CLKL counts while `cnt < SETTLE`; then, while bits are left, it shows the next one and goes
to S_DATA, and after the last it raises the latch and goes to L_HIGH; everything else is as before. -/
def Obligations.SClkLHoldsThenNextBitOrLatch : Prop :=
  ∀ s : State, s.st = .sClkL → s.quietAt 0 → ∃ t, step s = .next t ∧
    (s.cnt.toNat < s.settle.toNat →
      t.st = .sClkL ∧ t.cnt.toNat = s.cnt.toNat + 1 ∧ t.bitidx = s.bitidx ∧ ∀ L, s.lineKept t L) ∧
    (s.settle.toNat ≤ s.cnt.toNat → 0 < s.bitidx.toNat →
      t.st = .sData ∧ t.cnt = s.cnt ∧ t.bitidx.toNat + 1 = s.bitidx.toNat ∧
      s.lineDriven t .data (s.pat.getLsbD (s.bitidx.toNat - 1)) ∧ ∀ M, M ≠ .data → s.lineKept t M) ∧
    (s.settle.toNat ≤ s.cnt.toNat → s.bitidx.toNat = 0 →
      t.st = .lHigh ∧ t.cnt = 1 ∧ t.bitidx = s.bitidx ∧ s.lineDriven t .latch true ∧
      ∀ M, M ≠ .latch → s.lineKept t M) ∧
    s.silent t ∧ t.op = s.op ∧ t.pat = s.pat ∧ t.wcnt = s.wcnt ∧ t.wline = s.wline ∧ t.wto = s.wto ∧
    s.regsKept t ∧ s.countersKept t ∧ s.faultKept t ∧ s.inputsAdvanced t

/-- 41_shift_register_link.md R85: L_HIGH counts while `cnt < SETTLE`, then lowers the latch and writes `last_level`; SEND
responds OK, any other command goes on to I_PRE; everything else is as before. -/
def Obligations.LHighHoldsThenCommits : Prop :=
  ∀ s : State, s.st = .lHigh → s.quietAt 0 → ∃ t, step s = .next t ∧
    (s.cnt.toNat < s.settle.toNat →
      t.st = .lHigh ∧ t.cnt.toNat = s.cnt.toNat + 1 ∧ s.silent t ∧ s.countersKept t ∧ ∀ L, s.lineKept t L) ∧
    (s.settle.toNat ≤ s.cnt.toNat → t.cnt = s.cnt ∧ s.lineDriven t .latch false ∧
      (∀ M, M ≠ .latch → s.lineKept t M) ∧ t.lastLevel.toNat = s.pat.toNat % 8 ∧ t.bytecount = s.bytecount ∧
      (s.op = .send → t.answered .ok 0) ∧ (s.op ≠ .send → t.st = .iPre ∧ s.silent t)) ∧
    t.op = s.op ∧ t.pat = s.pat ∧ t.bitidx = s.bitidx ∧ t.wcnt = s.wcnt ∧ t.wline = s.wline ∧ t.wto = s.wto ∧
    s.regsKept t ∧ s.faultKept t ∧ s.inputsAdvanced t

/-- 44_transmit_cycle.md R116: I_PRE drives the interrupt LOW and goes to I_ASSERT with `cnt` 1; everything else is as
before. -/
def Obligations.IPreAssertsTheInterrupt : Prop :=
  ∀ s : State, s.st = .iPre → s.quietAt 0 → ∃ t, step s = .next t ∧
    t.st = .iAssert ∧ t.cnt = 1 ∧ s.lineDriven t .interrupt false ∧ (∀ M, M ≠ .interrupt → s.lineKept t M) ∧
    s.silent t ∧ t.op = s.op ∧ t.pat = s.pat ∧ t.bitidx = s.bitidx ∧ t.wcnt = s.wcnt ∧ t.wline = s.wline ∧
    t.wto = s.wto ∧ s.regsKept t ∧ s.countersKept t ∧ s.faultKept t ∧ s.inputsAdvanced t

/-- 42_handshake.md R98: I_ASSERT counts while `cnt < INTPULSE`; then the interrupt returns HIGH and ack is armed for a falling
edge at the same clock edge, and the wait begins, bounded where TIMEOUT is not 0; everything else is as before. -/
def Obligations.IAssertHoldsThenArmsAck : Prop :=
  ∀ s : State, s.st = .iAssert → s.quietAt 0 → ∃ t, step s = .next t ∧
    (s.cnt.toNat < s.intpulse.toNat →
      t.st = .iAssert ∧ t.cnt.toNat = s.cnt.toNat + 1 ∧ t.wcnt = s.wcnt ∧ t.wline = s.wline ∧ t.wto = s.wto ∧
      ∀ L, s.lineKept t L) ∧
    (s.intpulse.toNat ≤ s.cnt.toNat →
      t.st = .iAwait ∧ t.cnt = s.cnt ∧ t.wline = .ack ∧ t.wcnt = 0 ∧ (t.wto = true ↔ s.timeout ≠ 0) ∧
      s.lineDriven t .interrupt true ∧
      (t.line .ack).claimed = (s.line .ack).claimed ∧ (t.line .ack).dir = (s.line .ack).dir ∧
      (t.line .ack).lvl = (s.line .ack).lvl ∧ (t.line .ack).armed = true ∧ (t.line .ack).esel = .falling ∧
      (t.line .ack).seen = false ∧ s.lineSampled t .ack ∧
      ∀ M, M ≠ .interrupt → M ≠ .ack → s.lineKept t M) ∧
    s.silent t ∧ t.op = s.op ∧ t.pat = s.pat ∧ t.bitidx = s.bitidx ∧
    s.regsKept t ∧ s.countersKept t ∧ s.faultKept t ∧ s.inputsAdvanced t

/-- 40_signal_line.md R78, 42_handshake.md R100: the wait step: an edge wins over `cancel`, which wins over the timeout; an end
disarms the watched line and answers; a handshake that hits counts its byte and answers XMIT's level; else the wait goes on,
counting where it is bounded. Everything else is as before. -/
def Obligations.WaitStepEndsOrGoesOn : Prop :=
  ∀ s : State, s.st.waiting = true → s.quietAt 0 → ∃ t, step s = .next t ∧
    ((s.line s.wline).seen = true ∨ (s.line s.wline).edge = true →
      (s.st = .wAwait → t.answered .ok 0 ∧ t.bytecount = s.bytecount) ∧
      (s.st = .iAwait → t.bytecount = s.bytecount + 1 ∧ (s.op = .xmit → t.answered .ok (s.pat.setWidth 24)) ∧
        (s.op ≠ .xmit → t.answered .ok 0)) ∧ s.lineDisarmed t s.wline ∧ t.wcnt = s.wcnt) ∧
    ((s.line s.wline).seen = false → (s.line s.wline).edge = false → s.inp.cancel = true →
      t.answered .cancelled 0 ∧ t.bytecount = s.bytecount ∧ s.lineDisarmed t s.wline ∧ t.wcnt = s.wcnt) ∧
    ((s.line s.wline).seen = false → (s.line s.wline).edge = false → s.inp.cancel = false →
      s.wto = true → s.wcnt.toNat + 1 = s.timeout.toNat →
      t.answered (if s.st = .wAwait then .timeout else .peripheralUnresponsive) 0 ∧ t.bytecount = s.bytecount ∧
      s.lineDisarmed t s.wline ∧ t.wcnt = s.wcnt) ∧
    ((s.line s.wline).seen = false → (s.line s.wline).edge = false → s.inp.cancel = false →
      ¬(s.wto = true ∧ s.wcnt.toNat + 1 = s.timeout.toNat) →
      t.st = s.st ∧ s.silent t ∧ t.bytecount = s.bytecount ∧ s.lineKept t s.wline ∧
      t.wcnt = (if s.wto then s.wcnt + 1 else s.wcnt)) ∧
    (∀ M, M ≠ s.wline → s.lineKept t M) ∧ t.lastLevel = s.lastLevel ∧
    t.op = s.op ∧ t.pat = s.pat ∧ t.bitidx = s.bitidx ∧ t.cnt = s.cnt ∧ t.wline = s.wline ∧ t.wto = s.wto ∧
    s.regsKept t ∧ s.faultKept t ∧ s.inputsAdvanced t

/-! ## The state machine, many cycles -/

/-- 42_handshake.md R98: the interrupt line is LOW for exactly INTPULSE cycles from the first cycle of I_ASSERT, whatever
`cancel` does, and then the wait begins with the interrupt HIGH. -/
def Obligations.InterruptPulseLength : Prop :=
  ∀ s : State, s.st = .iAssert → s.cnt = 1 → s.intpulse ≠ 0 → (s.line .interrupt).lvl = false →
    s.quietFor s.intpulse.toNat →
    (∀ k, k < s.intpulse.toNat → ∃ t, core.run k s = .next t ∧ t.st = .iAssert ∧ (t.line .interrupt).lvl = false) ∧
    ∃ t, core.run s.intpulse.toNat s = .next t ∧ t.st = .iAwait ∧ (t.line .interrupt).lvl = true ∧
      (t.line .ack).armed = true

/-- 40_signal_line.md R78, 42_handshake.md R101, R106: a wait with no edge remembered, in which the watched line's synchronised
level has its first edge `k` cycles from now, before the bound and before any `cancel`, ends with OK in the cycle after. -/
def Obligations.WaitEndsAtTheFirstEdge : Prop :=
  ∀ (s : State) (k : Nat), s.st.waiting = true → (s.line s.wline).seen = false → s.quietFor (k + 1) →
    s.uncancelledFor k → (∀ j, j < k → s.edgeAt s.wline j = false) → s.edgeAt s.wline k = true →
    (s.wto = true → s.wcnt.toNat + k < s.timeout.toNat) →
    ∃ t, core.run (k + 1) s = .next t ∧
      t.answered .ok (if s.st = .iAwait ∧ s.op = .xmit then s.pat.setWidth 24 else 0) ∧
      (t.line s.wline).armed = false ∧ (t.line s.wline).seen = false ∧
      t.bytecount = if s.st = .iAwait then s.bytecount + 1 else s.bytecount

/-- 40_signal_line.md R78, 42_handshake.md R101: a wait bounded by T, in its first cycle, with no edge and no `cancel` in its T
cycles, is answered TIMEOUT or PERIPHERAL_UNRESPONSIVE after exactly T cycles, and is still waiting before. -/
def Obligations.WaitTimesOut : Prop :=
  ∀ s : State, s.st.waiting = true → (s.line s.wline).seen = false → s.wto = true → s.wcnt = 0 → s.timeout ≠ 0 →
    s.quietFor s.timeout.toNat → s.uncancelledFor s.timeout.toNat →
    (∀ j, j < s.timeout.toNat → s.edgeAt s.wline j = false) →
    (∀ k, k < s.timeout.toNat → ∃ t, core.run k s = .next t ∧ t.st = s.st) ∧
    ∃ t, core.run s.timeout.toNat s = .next t ∧
      t.answered (if s.st = .wAwait then .timeout else .peripheralUnresponsive) 0 ∧
      (t.line s.wline).armed = false ∧ (t.line s.wline).seen = false ∧ t.bytecount = s.bytecount

/-- 42_handshake.md R102, 93_implementation_defined.md I9: a wait with no bound goes on for as long as no edge, `cancel`, line
fault or reset comes: the hang is kept. -/
def Obligations.UnboundedWaitHangs : Prop :=
  ∀ (s : State) (k : Nat), s.st.waiting = true → (s.line s.wline).seen = false → s.wto = false → s.quietFor k →
    s.uncancelledFor k → (∀ j, j < k → s.edgeAt s.wline j = false) →
    ∃ t, core.run k s = .next t ∧ t.st = s.st ∧ t.lastStatus = s.lastStatus ∧ t.bytecount = s.bytecount

/-- 41_shift_register_link.md R87: the waveform of one SEND accepted in this cycle, state, data, clock and latch in each of
its 17 SETTLE + 9 cycles, the clock and the latch starting LOW. -/
def Obligations.SendWaveform : Prop :=
  ∀ (s : State) (v : Data) (S : Nat), S = s.settle.toNat → 0 < S → s.st = .idle → s.inp.cmdValid = true →
    decode s.inp.cmd = .ok (.send v) → v.toNat ≤ 5 → s.linkClaimed = true → (s.line .clock).lvl = false →
    (s.line .latch).lvl = false → s.quietFor (17 * S + 9) →
    (∀ k, k < 8 → ∃ t, core.run (1 + k * (2 * S + 1)) s = .next t ∧ t.st = .sData ∧
      t.padOut .data = v.getLsbD (7 - k) ∧ t.padOut .clock = false ∧ t.padOut .latch = false) ∧
    (∀ k j, k < 8 → j < S → ∃ t, core.run (2 + k * (2 * S + 1) + j) s = .next t ∧ t.st = .sClkH ∧
      t.padOut .data = v.getLsbD (7 - k) ∧ t.padOut .clock = true ∧ t.padOut .latch = false) ∧
    (∀ k j, k < 8 → j < S → ∃ t, core.run (2 + S + k * (2 * S + 1) + j) s = .next t ∧ t.st = .sClkL ∧
      t.padOut .data = v.getLsbD (7 - k) ∧ t.padOut .clock = false ∧ t.padOut .latch = false) ∧
    (∀ j, j < S → ∃ t, core.run (16 * S + 9 + j) s = .next t ∧ t.st = .lHigh ∧
      t.padOut .data = v.getLsbD 0 ∧ t.padOut .clock = false ∧ t.padOut .latch = true) ∧
    ∃ t, core.run (17 * S + 9) s = .next t ∧ t.answered .ok 0 ∧ t.lastLevel.toNat = v.toNat ∧
      t.padOut .data = v.getLsbD 0 ∧ t.padOut .clock = false ∧ t.padOut .latch = false

/-- 41_shift_register_link.md R94: after one SEND of a level, the external register's stages and its outputs are that level, as
the peripheral reads it, whatever they were before; the settle delay meets the peripheral's minimum. That the register sees
the pads with no delay is the model's choice (log 11). -/
def Obligations.SendRoundTrip : Prop :=
  ∀ (s : State) (v : Data), s.settle ≠ 0 → s.settleLegal → s.st = .idle → s.inp.cmdValid = true →
    decode s.inp.cmd = .ok (.send v) → v.toNat ≤ 5 → s.linkClaimed = true → (s.line .clock).lvl = false →
    (s.line .latch).lvl = false → s.quietFor (17 * s.settle.toNat + 9) →
    ∃ t, core.run (17 * s.settle.toNat + 9) s = .next t ∧ t.answered .ok 0 ∧ t.ext.stage.toNat = v.toNat ∧
      t.ext.out.toNat = v.toNat ∧ t.outputsReadable ∧ t.pins.toNat = v.toNat

/-- 44_transmit_cycle.md R118, R119, 70_reset_and_hazards.md R162: one XMIT accepted in this cycle, with the boot sequence done
and the first falling edge of ack seen `k` cycles into its wait. Its level's pattern is shifted, most significant bit first;
the latch is HIGH for SETTLE cycles; one cycle with the interrupt as it was (HIGH, by the invariant) follows, then INTPULSE
cycles with the interrupt LOW; then it is HIGH again and ack is armed, until OK with the level is answered after 17 SETTLE + INTPULSE + 11 + k cycles, the byte counted and in the
external register. That the register sees the pads with no delay is the model's choice (log 11). -/
def Obligations.XmitByteCycle : Prop :=
  ∀ (s : State) (v : Data) (k w : Nat), w = 17 * s.settle.toNat + s.intpulse.toNat + 10 →
    s.settle ≠ 0 → s.intpulse ≠ 0 → s.settleLegal → s.linkReady → s.st = .idle → s.inp.cmdValid = true →
    decode s.inp.cmd = .ok (.xmit v) → 0 ≤ v.toInt → v.toInt ≤ 255 → s.quietFor (w + k + 1) →
    (∀ j, w ≤ j → j < w + k → (s.inpAt j).cancel = false) →
    (∀ j, w ≤ j → j < w + k → (s.syncAt .ack j && !s.syncAt .ack (j + 1)) = false) →
    (s.syncAt .ack (w + k) && !s.syncAt .ack (w + k + 1)) = true →
    (s.timeout = 0 ∨ k < s.timeout.toNat) →
    (∀ b, b < 8 → ∃ t, core.run (1 + b * (2 * s.settle.toNat + 1)) s = .next t ∧ t.st = .sData ∧
      t.padOut .data = (quantize v.toInt).getLsbD (7 - b) ∧ t.padOut .clock = false ∧ t.padOut .latch = false) ∧
    (∀ b j, b < 8 → j < s.settle.toNat →
      (∃ t, core.run (2 + b * (2 * s.settle.toNat + 1) + j) s = .next t ∧ t.st = .sClkH ∧
        t.padOut .data = (quantize v.toInt).getLsbD (7 - b) ∧ t.padOut .clock = true ∧ t.padOut .latch = false) ∧
      ∃ t, core.run (2 + s.settle.toNat + b * (2 * s.settle.toNat + 1) + j) s = .next t ∧ t.st = .sClkL ∧
        t.padOut .data = (quantize v.toInt).getLsbD (7 - b) ∧ t.padOut .clock = false ∧ t.padOut .latch = false) ∧
    (∀ j, j < s.settle.toNat → ∃ t, core.run (16 * s.settle.toNat + 9 + j) s = .next t ∧ t.st = .lHigh ∧
      t.padOut .latch = true ∧ t.padOut .clock = false) ∧
    (∃ t, core.run (17 * s.settle.toNat + 9) s = .next t ∧ t.st = .iPre ∧ t.padOut .latch = false ∧
      t.padOut .interrupt = s.padOut .interrupt) ∧
    (∀ j, j < s.intpulse.toNat → ∃ t, core.run (17 * s.settle.toNat + 10 + j) s = .next t ∧ t.st = .iAssert ∧
      t.padOut .interrupt = false ∧ t.padOut .latch = false) ∧
    (∀ j, j ≤ k → ∃ t, core.run (w + j) s = .next t ∧ t.st = .iAwait ∧ t.padOut .interrupt = true ∧
      (t.line .ack).armed = true ∧ (t.line .ack).esel = .falling) ∧
    ∃ t, core.run (w + k + 1) s = .next t ∧ t.answered .ok t.rspData ∧
      t.rspData.toNat = (quantize v.toInt).toNat ∧ t.bytecount = s.bytecount + 1 ∧
      t.lastLevel = quantize v.toInt ∧ t.ext.out.toNat = (quantize v.toInt).toNat ∧
      (t.line .interrupt).lvl = true ∧ (t.line .ack).armed = false ∧ (t.line .clock).lvl = false ∧
      (t.line .latch).lvl = false

/-- 44_transmit_cycle.md R119, 42_handshake.md R100: where the machine's invariant holds, a cycle of a byte cycle that ends it
with OK is a cycle of I_AWAIT in which a falling edge of ack is seen or remembered; it counts the byte and answers its
level. -/
def Obligations.XmitOkOnlyAfterAck : Prop :=
  ∀ s t : State, s.Inv → s.inp.rst = false → s.st ≠ .idle → s.op = .xmit → step s = .next t →
    t.rspValid = true → t.rspStatus = .ok →
    s.st = .iAwait ∧ ((s.line .ack).seen = true ∨ (s.line .ack).fall = true) ∧
      t.bytecount = s.bytecount + 1 ∧ t.rspData.toNat = s.pat.toNat

/-! ## Lines over time -/

/-- 10_state.md R21: no command but SEND, HSHAKE, XMIT and the claim or release of the line itself changes a role line's claim,
direction, level or detector, unless it enters FAULT. -/
def Obligations.RoleLinesAreOwned : Prop :=
  ∀ (i : Instr) (s t : State) (L : LineId), isRole L = true → exec i s = .next t → t.st ≠ .fault →
    (∀ f, i ≠ .cfgout L f) → i ≠ .cfgin L → i ≠ .release L → (∀ v, i ≠ .send v) → i ≠ .hshake →
    (∀ v, i ≠ .xmit v) → s.lineKept t L

/-- 40_signal_line.md R71: a line that is claimed before and after a cycle has kept its direction. -/
def Obligations.DirectionIsFixedWhileClaimed : Prop :=
  ∀ (s t : State) (L : LineId), step s = .next t → (s.line L).claimed = true → (t.line L).claimed = true →
    (t.line L).dir = (s.line L).dir

/-! ## The external register -/

/-- 41_shift_register_link.md R92: at a rising clock edge the register captures the data line into its first stage and moves
every stage one place on; without one its stages stay. The settle delay meets the minimum and the data line does not change at
that edge. The model's own, not the spec's: the stages change at those edges only, whatever the settle delay (log 7), the
register sees the pads with no delay (log 11), a pulse that a fault or a reset cuts short counts as a pulse (log 18), and
the stages stay over a reset (log 21). -/
def Obligations.ExternalRegisterShifts : Prop :=
  ∀ s t : State, step s = .next t →
    (s.padLevel .clock = false → t.padLevel .clock = true → s.settleLegal → s.padLevel .data = t.padLevel .data →
      t.ext.stage.getLsbD 0 = t.padLevel .data ∧ ∀ k, k < 7 → t.ext.stage.getLsbD (k + 1) = s.ext.stage.getLsbD k) ∧
    (¬(s.padLevel .clock = false ∧ t.padLevel .clock = true) → t.ext.stage = s.ext.stage)

/-- 41_shift_register_link.md R93, 70_reset_and_hazards.md R152: the latch's fall leaves the stages in the outputs, all bits at
once, where they are what they were at its rise; without a fall the committed outputs stay; the pins show the outputs while the
latch is LOW, and bit by bit the outputs or the stages while it is HIGH. The model's own, not the spec's: the outputs change
at those edges only, whatever the settle delay (log 7), where the committed value is kept while the latch is HIGH (log 8), the register sees the pads with no delay (log 11), a pulse that a fault or a
reset cuts short counts as a pulse (log 18), and the outputs stay over a reset (log 21). -/
def Obligations.ExternalRegisterCommits : Prop :=
  (∀ s t : State, step s = .next t →
    (s.padLevel .latch = true → t.padLevel .latch = false → s.settleLegal →
      ¬(s.padLevel .clock = false ∧ t.padLevel .clock = true) → s.ext.atRise = s.ext.stage →
      t.ext.out = s.ext.stage) ∧
    (¬(s.padLevel .latch = true ∧ t.padLevel .latch = false) → t.ext.out = s.ext.out)) ∧
  ∀ s : State, (s.padLevel .latch = false → s.pins = s.ext.out) ∧
    (s.padLevel .latch = true → ∀ k, k < 8 → s.pins.getLsbD k = s.ext.out.getLsbD k ∨
      s.pins.getLsbD k = s.ext.stage.getLsbD k)

/-! ## The output ports -/

/-- 10_state.md R16, R27, 60_exceptions.md R127: the output ports: a pad is driven where its line is a claimed output, at the
line's level; `busy` is off in IDLE and FAULT only; `state`, `rsp_status` and `fault_code` show the codes the spec numbers. -/
def Obligations.PortsShowTheCodes : Prop :=
  ∀ s : State,
    (∀ L, (s.padOe L = true ↔ (s.line L).claimed = true ∧ (s.line L).dir = .output) ∧ s.padOut L = (s.line L).lvl) ∧
    (s.busy = true ↔ s.st ≠ .idle ∧ s.st ≠ .fault) ∧
    (s.statePort.toNat = match s.st with
      | .idle => 0 | .sData => 1 | .sClkH => 2 | .sClkL => 3 | .lHigh => 4 | .iPre => 5 | .iAssert => 6
      | .iAwait => 7 | .wAwait => 8 | .fault => 15) ∧
    (s.rspStatusPort.toNat = match s.rspStatus with
      | .ok => 0 | .lineUnavailable => 1 | .lineFault => 2 | .timeout => 3 | .peripheralUnresponsive => 4
      | .outOfRange => 5 | .cancelled => 6 | .illegalCommand => 7) ∧
    (s.faultCodePort.toNat = match s.faultCode with
      | .ok => 0 | .lineUnavailable => 1 | .lineFault => 2 | .timeout => 3 | .peripheralUnresponsive => 4
      | .outOfRange => 5 | .cancelled => 6 | .illegalCommand => 7)
end

