-- ==== Sys2Proof/Laws/Assembler.lean ====
section
/-! SUPPORT. What the assembler's readers do: the words of a line, digits, numbers, samples, the names of lines and
registers. -/

namespace Sys2Proof.Machine

/-- No blank or comma: a word of a line. -/
def Clean (cs : List Char) : Prop := ∀ c ∈ cs, ¬(c = ' ' ∨ c = ',' ∨ c = '\t')

theorem clean_of_all {cs : List Char} (h : (cs.all fun c => !decide (c = ' ' ∨ c = ',' ∨ c = '\t')) = true) : Clean cs := by
  intro c hc
  simpa using List.all_eq_true.mp h c hc

theorem splitWords_clean {cs : List Char} (h : Clean cs) (rest cur : List Char) :
    splitWords (cs ++ rest) cur = splitWords rest (cs.reverse ++ cur) := by
  induction cs generalizing cur with
  | nil => rfl
  | cons c cs ih =>
    rw [List.cons_append, splitWords, if_neg (h c List.mem_cons_self), ih fun d hd => h d (List.mem_cons_of_mem _ hd)]
    simp

/-- The last word of a line. -/
theorem splitWords_last {cs : List Char} (h : Clean cs) (hne : cs ≠ []) : splitWords cs [] = [cs] := by
  have := splitWords_clean h [] []
  simpa [splitWords, hne] using this

/-- A word before a blank. -/
theorem splitWords_blank {cs : List Char} (h : Clean cs) (hne : cs ≠ []) (rest : List Char) :
    splitWords (cs ++ ' ' :: rest) [] = cs :: splitWords rest [] := by
  rw [splitWords_clean h, splitWords]; simp [hne]

/-- A word before a comma and a blank. -/
theorem splitWords_comma {cs : List Char} (h : Clean cs) (hne : cs ≠ []) (rest : List Char) :
    splitWords (cs ++ ',' :: ' ' :: rest) [] = cs :: splitWords rest [] := by
  rw [splitWords_clean h, splitWords, splitWords]; simp [hne]

/-- A digit is read as its value; below 10 it is one of `0` to `9`. -/
theorem digitValue_of_isDigit {c : Char} {d : Nat} (h : IsDigit c d) :
    digitValue c = some d ∧ ¬(c = ' ' ∨ c = ',' ∨ c = '\t') ∧ c ≠ '-' ∧ (d < 10 → c.toNat < 58) := by
  have hd : d < 16 := by
    rcases h with h | h <;> exact (List.getElem?_eq_some_iff.mp h).1
  interval_cases d <;> rcases h with h | h <;> cases h <;> decide

theorem digitsValue_append {base : Nat} {cs ds : List Char} {acc n : Nat} (h : digitsValue base cs acc = some n) :
    digitsValue base (cs ++ ds) acc = digitsValue base ds n := by
  induction cs generalizing acc with
  | nil => cases h; rfl
  | cons c cs ih =>
    simp only [digitsValue, List.cons_append] at h ⊢
    split at h
    · split at h
      · rename_i hb
        simp only [if_pos hb]
        exact ih h
      · cases h
    · cases h

/-- Digits are read as their value, and are a word of a line. -/
theorem digitsText_read {base : Nat} {cs : List Char} {n : Nat} (h : DigitsText base cs n) :
    digitsValue base cs 0 = some n ∧ Clean cs ∧ cs ≠ [] ∧ (∀ c ∈ cs, c ≠ '-') ∧
      (base ≤ 10 → ∀ c ∈ cs, c.toNat < 58) := by
  induction h with
  | one hc hd =>
    obtain ⟨h1, h2, h3, h4⟩ := digitValue_of_isDigit hc
    simp only [digitsValue, h1, if_pos hd, Clean, List.mem_singleton, forall_eq]
    exact ⟨by simp, h2, by simp, h3, fun hb => h4 (by omega)⟩
  | more _ hc hd ih =>
    obtain ⟨h1, h2, h3, h4⟩ := digitValue_of_isDigit hc
    obtain ⟨i1, i2, i3, i4, i5⟩ := ih
    refine ⟨?_, ?_, by simp, ?_, ?_⟩
    · rw [digitsValue_append i1]; simp only [digitsValue, h1, if_pos hd]
    · intro c hc; rcases List.mem_append.mp hc with hc | hc
      · exact i2 c hc
      · rw [List.mem_singleton.mp hc]; exact h2
    · intro c hc; rcases List.mem_append.mp hc with hc | hc
      · exact i4 c hc
      · rw [List.mem_singleton.mp hc]; exact h3
    · intro hb c hc; rcases List.mem_append.mp hc with hc | hc
      · exact i5 hb c hc
      · rw [List.mem_singleton.mp hc]; exact h4 (by omega)

/-- A number is read as its value, is a word of a line, has no sign, and starts with `0` to `9`. -/
theorem numberText_read {t : String} {n : Nat} (h : NumberText t n) :
    parseNat t.toList = some n ∧ Clean t.toList ∧ ∃ c cs, t.toList = c :: cs ∧ c ≠ '-' ∧ c.toNat < 58 := by
  cases h with
  | @dec cs _ h =>
    obtain ⟨h1, h2, h3, h4, h5⟩ := digitsText_read h
    rw [String.toList_ofList]
    obtain ⟨c, cs, rfl⟩ := List.exists_cons_of_ne_nil h3
    have h58 : ∀ d ∈ cs, d.toNat < 58 := fun d hd => h5 (Nat.le_refl _) d (List.mem_cons_of_mem _ hd)
    refine ⟨?_, h2, c, cs, rfl, h4 c List.mem_cons_self, h5 (Nat.le_refl _) c List.mem_cons_self⟩
    unfold parseNat
    split
    · simp_all
    · rename_i e; cases e; exact absurd (h58 'x' List.mem_cons_self) (by decide)
    · rename_i e; cases e; exact absurd (h58 'b' List.mem_cons_self) (by decide)
    · rename_i e; cases e; exact h1
  | @hex cs _ h =>
    obtain ⟨h1, h2, h3, _, _⟩ := digitsText_read h
    obtain ⟨c, cs, rfl⟩ := List.exists_cons_of_ne_nil h3
    have e : ("0x" ++ String.ofList (c :: cs)).toList = '0' :: 'x' :: c :: cs := by
      simp only [String.toList_append, String.toList_ofList]; rfl
    rw [e]
    refine ⟨h1, ?_, '0', 'x' :: c :: cs, rfl, by decide, by decide⟩
    intro d hd
    rcases List.mem_cons.mp hd with rfl | hd
    · decide
    · rcases List.mem_cons.mp hd with rfl | hd
      · decide
      · exact h2 d hd
  | @bin cs _ h =>
    obtain ⟨h1, h2, h3, _, _⟩ := digitsText_read h
    obtain ⟨c, cs, rfl⟩ := List.exists_cons_of_ne_nil h3
    have e : ("0b" ++ String.ofList (c :: cs)).toList = '0' :: 'b' :: c :: cs := by
      simp only [String.toList_append, String.toList_ofList]; rfl
    rw [e]
    refine ⟨h1, ?_, '0', 'b' :: c :: cs, rfl, by decide, by decide⟩
    intro d hd
    rcases List.mem_cons.mp hd with rfl | hd
    · decide
    · rcases List.mem_cons.mp hd with rfl | hd
      · decide
      · exact h2 d hd

/-- A sample is read as its value and is a word of a line; below 0 it is no number without sign. -/
theorem sampleText_read {t : String} {z : Int} (h : SampleText t z) :
    parseInt t.toList = some z ∧ Clean t.toList ∧ t.toList ≠ [] ∧
      ((∃ n : Nat, z = n ∧ parseNat t.toList = some n) ∨ parseNat t.toList = none) := by
  cases h with
  | plain h =>
    obtain ⟨h1, h2, c, cs, e, hc, _⟩ := numberText_read h
    refine ⟨?_, h2, by rw [e]; simp, .inl ⟨_, rfl, h1⟩⟩
    rw [e] at h1 ⊢
    unfold parseInt
    split
    · rename_i e'; cases e'; exact absurd rfl hc
    · rw [h1]; rfl
  | @minus u _ h =>
    obtain ⟨h1, h2, _⟩ := numberText_read h
    have e : ("-" ++ u).toList = '-' :: u.toList := by
      simp only [String.toList_append]; rfl
    rw [e]
    refine ⟨?_, ?_, by simp, .inr ?_⟩
    · rw [parseInt, h1]; rfl
    · intro d hd
      rcases List.mem_cons.mp hd with rfl | hd
      · decide
      · exact h2 d hd
    · unfold parseNat
      split <;> rename_i e <;> cases e
      rfl

/-- A number is no name. -/
theorem numberText_ne {t : String} {n : Nat} (h : NumberText t n) {m : String} (hm : 58 ≤ (m.toList.headD 'z').toNat) :
    t.toList ≠ m.toList := by
  obtain ⟨_, _, c, cs, e, _, hc⟩ := numberText_read h
  rintro e'
  rw [← e', e] at hm
  exact absurd hm (Nat.not_le.mpr hc)

/-- A line's number is read as the line, and a number above 7 as none. -/
theorem parseLine_number {t : String} {n : Nat} (h : NumberText t n) :
    parseLine t.toList = if n < 8 then some (LineId.ofBits (BitVec.ofNat 3 n)) else none := by
  unfold parseLine
  rw [if_neg (numberText_ne h (by decide)), if_neg (numberText_ne h (by decide)), if_neg (numberText_ne h (by decide)),
    if_neg (numberText_ne h (by decide)), if_neg (numberText_ne h (by decide)), if_neg (numberText_ne h (by decide)),
    if_neg (numberText_ne h (by decide)), if_neg (numberText_ne h (by decide)), (numberText_read h).1]

/-- A register's number is read as the register, and a number above 6 as none. -/
theorem parseReg_number {t : String} {n : Nat} (h : NumberText t n) :
    parseReg t.toList = if n < 7 then some (RegIndex.ofBits (BitVec.ofNat 3 n)) else none := by
  unfold parseReg
  rw [if_neg (numberText_ne h (by decide)), if_neg (numberText_ne h (by decide)), if_neg (numberText_ne h (by decide)),
    if_neg (numberText_ne h (by decide)), if_neg (numberText_ne h (by decide)), if_neg (numberText_ne h (by decide)),
    if_neg (numberText_ne h (by decide)), (numberText_read h).1]

/-- A line is read as the line it names, and is a word. -/
theorem lineText_read {a : String} {L : LineId} (h : LineText a L) :
    parseLine a.toList = some L ∧ Clean a.toList ∧ a.toList ≠ [] := by
  rcases h with rfl | h
  · cases L <;> exact ⟨by decide, clean_of_all (by decide), by decide⟩
  · obtain ⟨_, h2, c, cs, e, _⟩ := numberText_read h
    refine ⟨?_, h2, by rw [e]; simp⟩
    rw [parseLine_number h]
    cases L <;> rfl

/-- A register is read as the register it names, and is a word. -/
theorem regText_read {a : String} {r : RegIndex} (h : RegText a r) :
    parseReg a.toList = some r ∧ Clean a.toList ∧ a.toList ≠ [] := by
  cases r <;> first
    | exact h.elim
    | rcases h with rfl | h
      · exact ⟨by decide, clean_of_all (by decide), by decide⟩
      · obtain ⟨_, h2, c, cs, e, _⟩ := numberText_read h
        exact ⟨by rw [parseReg_number h]; rfl, h2, by rw [e]; simp⟩

theorem levelText_read {b : String} {f : Level} (h : LevelText b f) :
    parseLevel b.toList = some f ∧ Clean b.toList ∧ b.toList ≠ [] := by
  cases f <;> rcases h with rfl | rfl <;> exact ⟨by decide, clean_of_all (by decide), by decide⟩

theorem edgeText_read {b : String} {e : Edge} (h : EdgeText b e) :
    parseEdge b.toList = some e ∧ Clean b.toList ∧ b.toList ≠ [] := by
  cases e <;> cases h <;> exact ⟨by decide, clean_of_all (by decide), by decide⟩

/-- A line of a mnemonic and one operand. -/
theorem assemble_one {m a : String} (hm : Clean m.toList) (hm' : m.toList ≠ []) (ha : Clean a.toList)
    (ha' : a.toList ≠ []) :
    assemble (m ++ " " ++ a) = (parseCommand [m.toList, a.toList]).map fun is => is.map encode := by
  have e : (m ++ " " ++ a).toList = m.toList ++ ' ' :: a.toList := by simp
  rw [assemble, e, splitWords_blank hm hm', splitWords_last ha ha']

/-- A line of a mnemonic and two operands. -/
theorem assemble_two {m a b : String} (hm : Clean m.toList) (hm' : m.toList ≠ []) (ha : Clean a.toList)
    (ha' : a.toList ≠ []) (hb : Clean b.toList) (hb' : b.toList ≠ []) :
    assemble (m ++ " " ++ a ++ ", " ++ b) =
      (parseCommand [m.toList, a.toList, b.toList]).map fun is => is.map encode := by
  have e : (m ++ " " ++ a ++ ", " ++ b).toList = m.toList ++ ' ' :: (a.toList ++ ',' :: ' ' :: b.toList) := by simp
  rw [assemble, e, splitWords_blank hm hm', splitWords_comma ha ha', splitWords_last hb hb']

end Sys2Proof.Machine
end

