-- ==== Sys2Proof/Laws/Encode.lean ====
section
/-! SUPPORT. The fields of a packed word, and the names the fields stand for. -/

namespace Sys2Proof

theorem packWord_toNat (op : BitVec 4) (line : BitVec 3) (f : Bool) (imm : Data) :
    (packWord op line f imm).toNat =
      op.toNat * 2 ^ 28 + line.toNat * 2 ^ 25 + f.toNat * 2 ^ 24 + imm.toNat := by
  have ho := op.isLt
  have hl := line.isLt
  have hi := imm.isLt
  have hb : (BitVec.ofBool f).toNat = f.toNat := by cases f <;> rfl
  have hf : f.toNat < 2 := by cases f <;> decide
  simp only [packWord, BitVec.toNat_append, hb]
  rw [← Nat.shiftLeft_add_eq_or_of_lt (by omega), ← Nat.shiftLeft_add_eq_or_of_lt (by omega),
    ← Nat.shiftLeft_add_eq_or_of_lt (by omega)]
  simp only [Nat.shiftLeft_eq]
  omega

@[simp] theorem opField_packWord (op : BitVec 4) (line : BitVec 3) (f : Bool) (imm : Data) :
    opField (packWord op line f imm) = op := by
  have hf : f.toNat < 2 := by cases f <;> decide
  have ho := op.isLt
  have hl := line.isLt
  have hi := imm.isLt
  apply BitVec.eq_of_toNat_eq
  simp only [opField, BitVec.extractLsb'_toNat, packWord_toNat, Nat.shiftRight_eq_div_pow]
  omega

@[simp] theorem lineField_packWord (op : BitVec 4) (line : BitVec 3) (f : Bool) (imm : Data) :
    lineField (packWord op line f imm) = line := by
  have hf : f.toNat < 2 := by cases f <;> decide
  have ho := op.isLt
  have hl := line.isLt
  have hi := imm.isLt
  apply BitVec.eq_of_toNat_eq
  simp only [lineField, BitVec.extractLsb'_toNat, packWord_toNat, Nat.shiftRight_eq_div_pow]
  omega

@[simp] theorem flagField_packWord (op : BitVec 4) (line : BitVec 3) (f : Bool) (imm : Data) :
    flagField (packWord op line f imm) = f := by
  have hi := imm.isLt
  simp only [flagField, BitVec.getLsbD, packWord_toNat, Nat.testBit_eq_decide_div_mod_eq]
  cases f <;> simp <;> omega

@[simp] theorem immField_packWord (op : BitVec 4) (line : BitVec 3) (f : Bool) (imm : Data) :
    immField (packWord op line f imm) = imm := by
  have hi := imm.isLt
  apply BitVec.eq_of_toNat_eq
  simp only [immField, BitVec.extractLsb'_toNat, packWord_toNat, Nat.shiftRight_eq_div_pow]
  omega

theorem packWord_fields (w : Word) : packWord (opField w) (lineField w) (flagField w) (immField w) = w := by
  have hw := w.isLt
  have hf : (flagField w).toNat = w.toNat / 2 ^ 24 % 2 := by
    simp only [flagField, BitVec.getLsbD, Nat.testBit_eq_decide_div_mod_eq]
    rcases Nat.mod_two_eq_zero_or_one (w.toNat / 2 ^ 24) with h | h <;> rw [h] <;> rfl
  apply BitVec.eq_of_toNat_eq
  simp only [packWord_toNat, hf]
  simp only [opField, lineField, immField, BitVec.extractLsb'_toNat, Nat.shiftRight_eq_div_pow]
  omega

@[simp] theorem LineId.ofBits_bits (L : LineId) : LineId.ofBits L.bits = L := by cases L <;> rfl

@[simp] theorem LineId.bits_ofBits (b : BitVec 3) : (LineId.ofBits b).bits = b := by
  revert b; decide

@[simp] theorem RegIndex.ofBits_bits (r : RegIndex) : RegIndex.ofBits r.bits = r := by cases r <;> rfl

@[simp] theorem RegIndex.bits_ofBits (b : BitVec 3) : (RegIndex.ofBits b).bits = b := by
  revert b; decide

@[simp] theorem Edge.ofBit_bit (e : Edge) : Edge.ofBit e.bit = e := by cases e <;> rfl

@[simp] theorem Edge.bit_ofBit (b : Bool) : (Edge.ofBit b).bit = b := by cases b <;> rfl

theorem whenSbz_ok_iff (b : Bool) (i j : Instr) : whenSbz b i = .ok j ↔ b = true ∧ i = j := by
  cases b <;> simp [whenSbz]

end Sys2Proof
end

