-- ==== Sys2Proof/Laws/State.lean ====
section
/-! SUPPORT. One lemma for each field of State and each update of it, true by unfolding, and the line file's reads and
writes: no later proof unfolds a record update. -/

namespace Sys2Proof.Machine

/-! ## The line file -/

@[simp] theorem LineFile.get_set (F : LineFile) (L M : LineId) (l : Line) :
    (F.set L l).get M = if M = L then l else F.get M := by
  cases L <;> cases M <;> rfl

@[simp] theorem LineFile.get_map (F : LineFile) (f : LineId → Line → Line) (M : LineId) :
    (F.map f).get M = f M (F.get M) := by
  cases M <;> rfl

@[simp] theorem State.lines_get (s : State) (L : LineId) : s.lines.get L = s.line L := rfl

@[simp] theorem State.line_mk (st op pat bitidx cnt wcnt wline wto lines settle intpulse timeout lastStatus bytecount lastLevel
    rspValid rspStatus rspData fault faultCode ext env cycle) (L : LineId) :
    (State.mk st op pat bitidx cnt wcnt wline wto lines settle intpulse timeout lastStatus bytecount lastLevel rspValid
      rspStatus rspData fault faultCode ext env cycle).line L = lines.get L := rfl

theorem LineFile.ext_get {F G : LineFile} (h : ∀ L, F.get L = G.get L) : F = G := by
  cases F; cases G
  have h0 := h .data; have h1 := h .clock; have h2 := h .latch; have h3 := h .interrupt
  have h4 := h .ack; have h5 := h .gpio0; have h6 := h .gpio1; have h7 := h .gpio2
  simp only [LineFile.get] at h0 h1 h2 h3 h4 h5 h6 h7
  simp [*]


/-! ## updLine -/

@[simp] theorem State.updLine_st (s : State) (L : LineId) (f : Line → Line) : (s.updLine L f).st = s.st := rfl
@[simp] theorem State.updLine_op (s : State) (L : LineId) (f : Line → Line) : (s.updLine L f).op = s.op := rfl
@[simp] theorem State.updLine_pat (s : State) (L : LineId) (f : Line → Line) : (s.updLine L f).pat = s.pat := rfl
@[simp] theorem State.updLine_bitidx (s : State) (L : LineId) (f : Line → Line) : (s.updLine L f).bitidx = s.bitidx := rfl
@[simp] theorem State.updLine_cnt (s : State) (L : LineId) (f : Line → Line) : (s.updLine L f).cnt = s.cnt := rfl
@[simp] theorem State.updLine_wcnt (s : State) (L : LineId) (f : Line → Line) : (s.updLine L f).wcnt = s.wcnt := rfl
@[simp] theorem State.updLine_wline (s : State) (L : LineId) (f : Line → Line) : (s.updLine L f).wline = s.wline := rfl
@[simp] theorem State.updLine_wto (s : State) (L : LineId) (f : Line → Line) : (s.updLine L f).wto = s.wto := rfl
@[simp] theorem State.updLine_lines (s : State) (L : LineId) (f : Line → Line) : (s.updLine L f).lines = s.lines.set L (f (s.line L)) := rfl
@[simp] theorem State.updLine_settle (s : State) (L : LineId) (f : Line → Line) : (s.updLine L f).settle = s.settle := rfl
@[simp] theorem State.updLine_intpulse (s : State) (L : LineId) (f : Line → Line) : (s.updLine L f).intpulse = s.intpulse := rfl
@[simp] theorem State.updLine_timeout (s : State) (L : LineId) (f : Line → Line) : (s.updLine L f).timeout = s.timeout := rfl
@[simp] theorem State.updLine_lastStatus (s : State) (L : LineId) (f : Line → Line) : (s.updLine L f).lastStatus = s.lastStatus := rfl
@[simp] theorem State.updLine_bytecount (s : State) (L : LineId) (f : Line → Line) : (s.updLine L f).bytecount = s.bytecount := rfl
@[simp] theorem State.updLine_lastLevel (s : State) (L : LineId) (f : Line → Line) : (s.updLine L f).lastLevel = s.lastLevel := rfl
@[simp] theorem State.updLine_rspValid (s : State) (L : LineId) (f : Line → Line) : (s.updLine L f).rspValid = s.rspValid := rfl
@[simp] theorem State.updLine_rspStatus (s : State) (L : LineId) (f : Line → Line) : (s.updLine L f).rspStatus = s.rspStatus := rfl
@[simp] theorem State.updLine_rspData (s : State) (L : LineId) (f : Line → Line) : (s.updLine L f).rspData = s.rspData := rfl
@[simp] theorem State.updLine_fault (s : State) (L : LineId) (f : Line → Line) : (s.updLine L f).fault = s.fault := rfl
@[simp] theorem State.updLine_faultCode (s : State) (L : LineId) (f : Line → Line) : (s.updLine L f).faultCode = s.faultCode := rfl
@[simp] theorem State.updLine_ext (s : State) (L : LineId) (f : Line → Line) : (s.updLine L f).ext = s.ext := rfl
@[simp] theorem State.updLine_env (s : State) (L : LineId) (f : Line → Line) : (s.updLine L f).env = s.env := rfl
@[simp] theorem State.updLine_cycle (s : State) (L : LineId) (f : Line → Line) : (s.updLine L f).cycle = s.cycle := rfl
@[simp] theorem State.updLine_line (s : State) (L M : LineId) (f : Line → Line) :
    (s.updLine L f).line M = if M = L then f (s.line L) else s.line M := LineFile.get_set ..

/-! ## drive -/

@[simp] theorem State.drive_st (s : State) (L : LineId) (v : Level) : (s.drive L v).st = s.st := rfl
@[simp] theorem State.drive_op (s : State) (L : LineId) (v : Level) : (s.drive L v).op = s.op := rfl
@[simp] theorem State.drive_pat (s : State) (L : LineId) (v : Level) : (s.drive L v).pat = s.pat := rfl
@[simp] theorem State.drive_bitidx (s : State) (L : LineId) (v : Level) : (s.drive L v).bitidx = s.bitidx := rfl
@[simp] theorem State.drive_cnt (s : State) (L : LineId) (v : Level) : (s.drive L v).cnt = s.cnt := rfl
@[simp] theorem State.drive_wcnt (s : State) (L : LineId) (v : Level) : (s.drive L v).wcnt = s.wcnt := rfl
@[simp] theorem State.drive_wline (s : State) (L : LineId) (v : Level) : (s.drive L v).wline = s.wline := rfl
@[simp] theorem State.drive_wto (s : State) (L : LineId) (v : Level) : (s.drive L v).wto = s.wto := rfl
@[simp] theorem State.drive_settle (s : State) (L : LineId) (v : Level) : (s.drive L v).settle = s.settle := rfl
@[simp] theorem State.drive_intpulse (s : State) (L : LineId) (v : Level) : (s.drive L v).intpulse = s.intpulse := rfl
@[simp] theorem State.drive_timeout (s : State) (L : LineId) (v : Level) : (s.drive L v).timeout = s.timeout := rfl
@[simp] theorem State.drive_lastStatus (s : State) (L : LineId) (v : Level) : (s.drive L v).lastStatus = s.lastStatus := rfl
@[simp] theorem State.drive_bytecount (s : State) (L : LineId) (v : Level) : (s.drive L v).bytecount = s.bytecount := rfl
@[simp] theorem State.drive_lastLevel (s : State) (L : LineId) (v : Level) : (s.drive L v).lastLevel = s.lastLevel := rfl
@[simp] theorem State.drive_rspValid (s : State) (L : LineId) (v : Level) : (s.drive L v).rspValid = s.rspValid := rfl
@[simp] theorem State.drive_rspStatus (s : State) (L : LineId) (v : Level) : (s.drive L v).rspStatus = s.rspStatus := rfl
@[simp] theorem State.drive_rspData (s : State) (L : LineId) (v : Level) : (s.drive L v).rspData = s.rspData := rfl
@[simp] theorem State.drive_fault (s : State) (L : LineId) (v : Level) : (s.drive L v).fault = s.fault := rfl
@[simp] theorem State.drive_faultCode (s : State) (L : LineId) (v : Level) : (s.drive L v).faultCode = s.faultCode := rfl
@[simp] theorem State.drive_ext (s : State) (L : LineId) (v : Level) : (s.drive L v).ext = s.ext := rfl
@[simp] theorem State.drive_env (s : State) (L : LineId) (v : Level) : (s.drive L v).env = s.env := rfl
@[simp] theorem State.drive_cycle (s : State) (L : LineId) (v : Level) : (s.drive L v).cycle = s.cycle := rfl
@[simp] theorem State.drive_line (s : State) (L M : LineId) (v : Level) :
    (s.drive L v).line M = if M = L then { s.line L with lvl := v } else s.line M := LineFile.get_set ..

/-! ## disarm -/

@[simp] theorem State.disarm_st (s : State) (L : LineId) : (s.disarm L).st = s.st := rfl
@[simp] theorem State.disarm_op (s : State) (L : LineId) : (s.disarm L).op = s.op := rfl
@[simp] theorem State.disarm_pat (s : State) (L : LineId) : (s.disarm L).pat = s.pat := rfl
@[simp] theorem State.disarm_bitidx (s : State) (L : LineId) : (s.disarm L).bitidx = s.bitidx := rfl
@[simp] theorem State.disarm_cnt (s : State) (L : LineId) : (s.disarm L).cnt = s.cnt := rfl
@[simp] theorem State.disarm_wcnt (s : State) (L : LineId) : (s.disarm L).wcnt = s.wcnt := rfl
@[simp] theorem State.disarm_wline (s : State) (L : LineId) : (s.disarm L).wline = s.wline := rfl
@[simp] theorem State.disarm_wto (s : State) (L : LineId) : (s.disarm L).wto = s.wto := rfl
@[simp] theorem State.disarm_settle (s : State) (L : LineId) : (s.disarm L).settle = s.settle := rfl
@[simp] theorem State.disarm_intpulse (s : State) (L : LineId) : (s.disarm L).intpulse = s.intpulse := rfl
@[simp] theorem State.disarm_timeout (s : State) (L : LineId) : (s.disarm L).timeout = s.timeout := rfl
@[simp] theorem State.disarm_lastStatus (s : State) (L : LineId) : (s.disarm L).lastStatus = s.lastStatus := rfl
@[simp] theorem State.disarm_bytecount (s : State) (L : LineId) : (s.disarm L).bytecount = s.bytecount := rfl
@[simp] theorem State.disarm_lastLevel (s : State) (L : LineId) : (s.disarm L).lastLevel = s.lastLevel := rfl
@[simp] theorem State.disarm_rspValid (s : State) (L : LineId) : (s.disarm L).rspValid = s.rspValid := rfl
@[simp] theorem State.disarm_rspStatus (s : State) (L : LineId) : (s.disarm L).rspStatus = s.rspStatus := rfl
@[simp] theorem State.disarm_rspData (s : State) (L : LineId) : (s.disarm L).rspData = s.rspData := rfl
@[simp] theorem State.disarm_fault (s : State) (L : LineId) : (s.disarm L).fault = s.fault := rfl
@[simp] theorem State.disarm_faultCode (s : State) (L : LineId) : (s.disarm L).faultCode = s.faultCode := rfl
@[simp] theorem State.disarm_ext (s : State) (L : LineId) : (s.disarm L).ext = s.ext := rfl
@[simp] theorem State.disarm_env (s : State) (L : LineId) : (s.disarm L).env = s.env := rfl
@[simp] theorem State.disarm_cycle (s : State) (L : LineId) : (s.disarm L).cycle = s.cycle := rfl
@[simp] theorem State.disarm_line (s : State) (L M : LineId) :
    (s.disarm L).line M = if M = L then { s.line L with armed := false, seen := false } else s.line M :=
  LineFile.get_set ..

/-! ## tickBase -/

@[simp] theorem State.tickBase_st (s : State) : (s.tickBase).st = s.st := rfl
@[simp] theorem State.tickBase_op (s : State) : (s.tickBase).op = s.op := rfl
@[simp] theorem State.tickBase_pat (s : State) : (s.tickBase).pat = s.pat := rfl
@[simp] theorem State.tickBase_bitidx (s : State) : (s.tickBase).bitidx = s.bitidx := rfl
@[simp] theorem State.tickBase_cnt (s : State) : (s.tickBase).cnt = s.cnt := rfl
@[simp] theorem State.tickBase_wcnt (s : State) : (s.tickBase).wcnt = s.wcnt := rfl
@[simp] theorem State.tickBase_wline (s : State) : (s.tickBase).wline = s.wline := rfl
@[simp] theorem State.tickBase_wto (s : State) : (s.tickBase).wto = s.wto := rfl
@[simp] theorem State.tickBase_settle (s : State) : (s.tickBase).settle = s.settle := rfl
@[simp] theorem State.tickBase_intpulse (s : State) : (s.tickBase).intpulse = s.intpulse := rfl
@[simp] theorem State.tickBase_timeout (s : State) : (s.tickBase).timeout = s.timeout := rfl
@[simp] theorem State.tickBase_lastStatus (s : State) : (s.tickBase).lastStatus = s.lastStatus := rfl
@[simp] theorem State.tickBase_bytecount (s : State) : (s.tickBase).bytecount = s.bytecount := rfl
@[simp] theorem State.tickBase_lastLevel (s : State) : (s.tickBase).lastLevel = s.lastLevel := rfl
@[simp] theorem State.tickBase_rspValid (s : State) : (s.tickBase).rspValid = false := rfl
@[simp] theorem State.tickBase_rspStatus (s : State) : (s.tickBase).rspStatus = s.rspStatus := rfl
@[simp] theorem State.tickBase_rspData (s : State) : (s.tickBase).rspData = s.rspData := rfl
@[simp] theorem State.tickBase_fault (s : State) : (s.tickBase).fault = s.fault := rfl
@[simp] theorem State.tickBase_faultCode (s : State) : (s.tickBase).faultCode = s.faultCode := rfl
@[simp] theorem State.tickBase_ext (s : State) : (s.tickBase).ext = s.ext := rfl
@[simp] theorem State.tickBase_env (s : State) : (s.tickBase).env = s.env.tail := rfl
@[simp] theorem State.tickBase_cycle (s : State) : (s.tickBase).cycle = s.cycle + 1 := rfl
@[simp] theorem State.tickBase_line (s : State) (L : LineId) :
    s.tickBase.line L = (s.line L).sample (s.padLevel L) := LineFile.get_map ..

/-! ## tick -/

@[simp] theorem State.tick_st (s : State) : (s.tick).st = s.st := rfl
@[simp] theorem State.tick_op (s : State) : (s.tick).op = s.op := rfl
@[simp] theorem State.tick_pat (s : State) : (s.tick).pat = s.pat := rfl
@[simp] theorem State.tick_bitidx (s : State) : (s.tick).bitidx = s.bitidx := rfl
@[simp] theorem State.tick_cnt (s : State) : (s.tick).cnt = s.cnt := rfl
@[simp] theorem State.tick_wcnt (s : State) : (s.tick).wcnt = s.wcnt := rfl
@[simp] theorem State.tick_wline (s : State) : (s.tick).wline = s.wline := rfl
@[simp] theorem State.tick_wto (s : State) : (s.tick).wto = s.wto := rfl
@[simp] theorem State.tick_settle (s : State) : (s.tick).settle = s.settle := rfl
@[simp] theorem State.tick_intpulse (s : State) : (s.tick).intpulse = s.intpulse := rfl
@[simp] theorem State.tick_timeout (s : State) : (s.tick).timeout = s.timeout := rfl
@[simp] theorem State.tick_lastStatus (s : State) : (s.tick).lastStatus = s.lastStatus := rfl
@[simp] theorem State.tick_bytecount (s : State) : (s.tick).bytecount = s.bytecount := rfl
@[simp] theorem State.tick_lastLevel (s : State) : (s.tick).lastLevel = s.lastLevel := rfl
@[simp] theorem State.tick_rspValid (s : State) : (s.tick).rspValid = false := rfl
@[simp] theorem State.tick_rspStatus (s : State) : (s.tick).rspStatus = s.rspStatus := rfl
@[simp] theorem State.tick_rspData (s : State) : (s.tick).rspData = s.rspData := rfl
@[simp] theorem State.tick_fault (s : State) : (s.tick).fault = s.fault := rfl
@[simp] theorem State.tick_faultCode (s : State) : (s.tick).faultCode = s.faultCode := rfl
@[simp] theorem State.tick_ext (s : State) : (s.tick).ext = s.ext := rfl
@[simp] theorem State.tick_env (s : State) : (s.tick).env = s.env.tail := rfl
@[simp] theorem State.tick_cycle (s : State) : (s.tick).cycle = s.cycle + 1 := rfl
@[simp] theorem State.tick_line (s : State) (L : LineId) :
    s.tick.line L = (s.line L).detect.sample (s.padLevel L) := LineFile.get_map ..

/-! ## respond -/

@[simp] theorem State.respond_st (s : State) (c : Status) (d : Data) : (s.respond c d).st = .idle := rfl
@[simp] theorem State.respond_op (s : State) (c : Status) (d : Data) : (s.respond c d).op = s.op := rfl
@[simp] theorem State.respond_pat (s : State) (c : Status) (d : Data) : (s.respond c d).pat = s.pat := rfl
@[simp] theorem State.respond_bitidx (s : State) (c : Status) (d : Data) : (s.respond c d).bitidx = s.bitidx := rfl
@[simp] theorem State.respond_cnt (s : State) (c : Status) (d : Data) : (s.respond c d).cnt = s.cnt := rfl
@[simp] theorem State.respond_wcnt (s : State) (c : Status) (d : Data) : (s.respond c d).wcnt = s.wcnt := rfl
@[simp] theorem State.respond_wline (s : State) (c : Status) (d : Data) : (s.respond c d).wline = s.wline := rfl
@[simp] theorem State.respond_wto (s : State) (c : Status) (d : Data) : (s.respond c d).wto = s.wto := rfl
@[simp] theorem State.respond_lines (s : State) (c : Status) (d : Data) : (s.respond c d).lines = s.lines := rfl
@[simp] theorem State.respond_settle (s : State) (c : Status) (d : Data) : (s.respond c d).settle = s.settle := rfl
@[simp] theorem State.respond_intpulse (s : State) (c : Status) (d : Data) : (s.respond c d).intpulse = s.intpulse := rfl
@[simp] theorem State.respond_timeout (s : State) (c : Status) (d : Data) : (s.respond c d).timeout = s.timeout := rfl
@[simp] theorem State.respond_lastStatus (s : State) (c : Status) (d : Data) : (s.respond c d).lastStatus = c := rfl
@[simp] theorem State.respond_bytecount (s : State) (c : Status) (d : Data) : (s.respond c d).bytecount = s.bytecount := rfl
@[simp] theorem State.respond_lastLevel (s : State) (c : Status) (d : Data) : (s.respond c d).lastLevel = s.lastLevel := rfl
@[simp] theorem State.respond_rspValid (s : State) (c : Status) (d : Data) : (s.respond c d).rspValid = true := rfl
@[simp] theorem State.respond_rspStatus (s : State) (c : Status) (d : Data) : (s.respond c d).rspStatus = c := rfl
@[simp] theorem State.respond_rspData (s : State) (c : Status) (d : Data) : (s.respond c d).rspData = d := rfl
@[simp] theorem State.respond_fault (s : State) (c : Status) (d : Data) : (s.respond c d).fault = s.fault := rfl
@[simp] theorem State.respond_faultCode (s : State) (c : Status) (d : Data) : (s.respond c d).faultCode = s.faultCode := rfl
@[simp] theorem State.respond_ext (s : State) (c : Status) (d : Data) : (s.respond c d).ext = s.ext := rfl
@[simp] theorem State.respond_env (s : State) (c : Status) (d : Data) : (s.respond c d).env = s.env := rfl
@[simp] theorem State.respond_cycle (s : State) (c : Status) (d : Data) : (s.respond c d).cycle = s.cycle := rfl
@[simp] theorem State.respond_line (s : State) (c : Status) (d : Data) (L : LineId) :
    (s.respond c d).line L = s.line L := rfl

/-! ## startShift -/

@[simp] theorem State.startShift_st (s : State) (op : Op) (pat : Byte) : (s.startShift op pat).st = .sData := rfl
@[simp] theorem State.startShift_op (s : State) (op : Op) (pat : Byte) : (s.startShift op pat).op = op := rfl
@[simp] theorem State.startShift_pat (s : State) (op : Op) (pat : Byte) : (s.startShift op pat).pat = pat := rfl
@[simp] theorem State.startShift_bitidx (s : State) (op : Op) (pat : Byte) : (s.startShift op pat).bitidx = 7 := rfl
@[simp] theorem State.startShift_cnt (s : State) (op : Op) (pat : Byte) : (s.startShift op pat).cnt = s.cnt := rfl
@[simp] theorem State.startShift_wcnt (s : State) (op : Op) (pat : Byte) : (s.startShift op pat).wcnt = s.wcnt := rfl
@[simp] theorem State.startShift_wline (s : State) (op : Op) (pat : Byte) : (s.startShift op pat).wline = s.wline := rfl
@[simp] theorem State.startShift_wto (s : State) (op : Op) (pat : Byte) : (s.startShift op pat).wto = s.wto := rfl
@[simp] theorem State.startShift_settle (s : State) (op : Op) (pat : Byte) : (s.startShift op pat).settle = s.settle := rfl
@[simp] theorem State.startShift_intpulse (s : State) (op : Op) (pat : Byte) : (s.startShift op pat).intpulse = s.intpulse := rfl
@[simp] theorem State.startShift_timeout (s : State) (op : Op) (pat : Byte) : (s.startShift op pat).timeout = s.timeout := rfl
@[simp] theorem State.startShift_lastStatus (s : State) (op : Op) (pat : Byte) : (s.startShift op pat).lastStatus = s.lastStatus := rfl
@[simp] theorem State.startShift_bytecount (s : State) (op : Op) (pat : Byte) : (s.startShift op pat).bytecount = s.bytecount := rfl
@[simp] theorem State.startShift_lastLevel (s : State) (op : Op) (pat : Byte) : (s.startShift op pat).lastLevel = s.lastLevel := rfl
@[simp] theorem State.startShift_rspValid (s : State) (op : Op) (pat : Byte) : (s.startShift op pat).rspValid = s.rspValid := rfl
@[simp] theorem State.startShift_rspStatus (s : State) (op : Op) (pat : Byte) : (s.startShift op pat).rspStatus = s.rspStatus := rfl
@[simp] theorem State.startShift_rspData (s : State) (op : Op) (pat : Byte) : (s.startShift op pat).rspData = s.rspData := rfl
@[simp] theorem State.startShift_fault (s : State) (op : Op) (pat : Byte) : (s.startShift op pat).fault = s.fault := rfl
@[simp] theorem State.startShift_faultCode (s : State) (op : Op) (pat : Byte) : (s.startShift op pat).faultCode = s.faultCode := rfl
@[simp] theorem State.startShift_ext (s : State) (op : Op) (pat : Byte) : (s.startShift op pat).ext = s.ext := rfl
@[simp] theorem State.startShift_env (s : State) (op : Op) (pat : Byte) : (s.startShift op pat).env = s.env := rfl
@[simp] theorem State.startShift_cycle (s : State) (op : Op) (pat : Byte) : (s.startShift op pat).cycle = s.cycle := rfl
@[simp] theorem State.startShift_line (s : State) (op : Op) (pat : Byte) (M : LineId) :
    (s.startShift op pat).line M = if M = .data then { s.line .data with lvl := pat.getLsbD 7 } else s.line M :=
  LineFile.get_set ..

/-! ## assertInterrupt -/

@[simp] theorem State.assertInterrupt_st (s : State) : (s.assertInterrupt).st = .iAssert := rfl
@[simp] theorem State.assertInterrupt_op (s : State) : (s.assertInterrupt).op = s.op := rfl
@[simp] theorem State.assertInterrupt_pat (s : State) : (s.assertInterrupt).pat = s.pat := rfl
@[simp] theorem State.assertInterrupt_bitidx (s : State) : (s.assertInterrupt).bitidx = s.bitidx := rfl
@[simp] theorem State.assertInterrupt_cnt (s : State) : (s.assertInterrupt).cnt = 1 := rfl
@[simp] theorem State.assertInterrupt_wcnt (s : State) : (s.assertInterrupt).wcnt = s.wcnt := rfl
@[simp] theorem State.assertInterrupt_wline (s : State) : (s.assertInterrupt).wline = s.wline := rfl
@[simp] theorem State.assertInterrupt_wto (s : State) : (s.assertInterrupt).wto = s.wto := rfl
@[simp] theorem State.assertInterrupt_settle (s : State) : (s.assertInterrupt).settle = s.settle := rfl
@[simp] theorem State.assertInterrupt_intpulse (s : State) : (s.assertInterrupt).intpulse = s.intpulse := rfl
@[simp] theorem State.assertInterrupt_timeout (s : State) : (s.assertInterrupt).timeout = s.timeout := rfl
@[simp] theorem State.assertInterrupt_lastStatus (s : State) : (s.assertInterrupt).lastStatus = s.lastStatus := rfl
@[simp] theorem State.assertInterrupt_bytecount (s : State) : (s.assertInterrupt).bytecount = s.bytecount := rfl
@[simp] theorem State.assertInterrupt_lastLevel (s : State) : (s.assertInterrupt).lastLevel = s.lastLevel := rfl
@[simp] theorem State.assertInterrupt_rspValid (s : State) : (s.assertInterrupt).rspValid = s.rspValid := rfl
@[simp] theorem State.assertInterrupt_rspStatus (s : State) : (s.assertInterrupt).rspStatus = s.rspStatus := rfl
@[simp] theorem State.assertInterrupt_rspData (s : State) : (s.assertInterrupt).rspData = s.rspData := rfl
@[simp] theorem State.assertInterrupt_fault (s : State) : (s.assertInterrupt).fault = s.fault := rfl
@[simp] theorem State.assertInterrupt_faultCode (s : State) : (s.assertInterrupt).faultCode = s.faultCode := rfl
@[simp] theorem State.assertInterrupt_ext (s : State) : (s.assertInterrupt).ext = s.ext := rfl
@[simp] theorem State.assertInterrupt_env (s : State) : (s.assertInterrupt).env = s.env := rfl
@[simp] theorem State.assertInterrupt_cycle (s : State) : (s.assertInterrupt).cycle = s.cycle := rfl
@[simp] theorem State.assertInterrupt_line (s : State) (M : LineId) :
    s.assertInterrupt.line M = if M = .interrupt then { s.line .interrupt with lvl := false } else s.line M :=
  LineFile.get_set ..

/-! ## handshakeDone -/

@[simp] theorem State.handshakeDone_st (s : State) : (s.handshakeDone).st = .idle := rfl
@[simp] theorem State.handshakeDone_op (s : State) : (s.handshakeDone).op = s.op := rfl
@[simp] theorem State.handshakeDone_pat (s : State) : (s.handshakeDone).pat = s.pat := rfl
@[simp] theorem State.handshakeDone_bitidx (s : State) : (s.handshakeDone).bitidx = s.bitidx := rfl
@[simp] theorem State.handshakeDone_cnt (s : State) : (s.handshakeDone).cnt = s.cnt := rfl
@[simp] theorem State.handshakeDone_wcnt (s : State) : (s.handshakeDone).wcnt = s.wcnt := rfl
@[simp] theorem State.handshakeDone_wline (s : State) : (s.handshakeDone).wline = s.wline := rfl
@[simp] theorem State.handshakeDone_wto (s : State) : (s.handshakeDone).wto = s.wto := rfl
@[simp] theorem State.handshakeDone_lines (s : State) : (s.handshakeDone).lines = s.lines := rfl
@[simp] theorem State.handshakeDone_settle (s : State) : (s.handshakeDone).settle = s.settle := rfl
@[simp] theorem State.handshakeDone_intpulse (s : State) : (s.handshakeDone).intpulse = s.intpulse := rfl
@[simp] theorem State.handshakeDone_timeout (s : State) : (s.handshakeDone).timeout = s.timeout := rfl
@[simp] theorem State.handshakeDone_lastStatus (s : State) : (s.handshakeDone).lastStatus = .ok := rfl
@[simp] theorem State.handshakeDone_bytecount (s : State) : (s.handshakeDone).bytecount = s.bytecount + 1 := rfl
@[simp] theorem State.handshakeDone_lastLevel (s : State) : (s.handshakeDone).lastLevel = s.lastLevel := rfl
@[simp] theorem State.handshakeDone_rspValid (s : State) : (s.handshakeDone).rspValid = true := rfl
@[simp] theorem State.handshakeDone_rspStatus (s : State) : (s.handshakeDone).rspStatus = .ok := rfl
@[simp] theorem State.handshakeDone_rspData (s : State) : (s.handshakeDone).rspData = if s.op = .xmit then s.pat.setWidth 24 else 0 := rfl
@[simp] theorem State.handshakeDone_fault (s : State) : (s.handshakeDone).fault = s.fault := rfl
@[simp] theorem State.handshakeDone_faultCode (s : State) : (s.handshakeDone).faultCode = s.faultCode := rfl
@[simp] theorem State.handshakeDone_ext (s : State) : (s.handshakeDone).ext = s.ext := rfl
@[simp] theorem State.handshakeDone_env (s : State) : (s.handshakeDone).env = s.env := rfl
@[simp] theorem State.handshakeDone_cycle (s : State) : (s.handshakeDone).cycle = s.cycle := rfl
@[simp] theorem State.handshakeDone_line (s : State) (L : LineId) : s.handshakeDone.line L = s.line L := rfl

/-! ## writeReg -/

@[simp] theorem State.writeReg_st (s : State) (r : RegIndex) (v : Data) : (s.writeReg r v).st = s.st := by cases r <;> rfl
@[simp] theorem State.writeReg_op (s : State) (r : RegIndex) (v : Data) : (s.writeReg r v).op = s.op := by cases r <;> rfl
@[simp] theorem State.writeReg_pat (s : State) (r : RegIndex) (v : Data) : (s.writeReg r v).pat = s.pat := by cases r <;> rfl
@[simp] theorem State.writeReg_bitidx (s : State) (r : RegIndex) (v : Data) : (s.writeReg r v).bitidx = s.bitidx := by cases r <;> rfl
@[simp] theorem State.writeReg_cnt (s : State) (r : RegIndex) (v : Data) : (s.writeReg r v).cnt = s.cnt := by cases r <;> rfl
@[simp] theorem State.writeReg_wcnt (s : State) (r : RegIndex) (v : Data) : (s.writeReg r v).wcnt = s.wcnt := by cases r <;> rfl
@[simp] theorem State.writeReg_wline (s : State) (r : RegIndex) (v : Data) : (s.writeReg r v).wline = s.wline := by cases r <;> rfl
@[simp] theorem State.writeReg_wto (s : State) (r : RegIndex) (v : Data) : (s.writeReg r v).wto = s.wto := by cases r <;> rfl
@[simp] theorem State.writeReg_lines (s : State) (r : RegIndex) (v : Data) : (s.writeReg r v).lines = s.lines := by cases r <;> rfl
@[simp] theorem State.writeReg_settle (s : State) (r : RegIndex) (v : Data) :
    (s.writeReg r v).settle = if r = .settle then v else s.settle := by cases r <;> rfl
@[simp] theorem State.writeReg_intpulse (s : State) (r : RegIndex) (v : Data) :
    (s.writeReg r v).intpulse = if r = .intpulse then v else s.intpulse := by cases r <;> rfl
@[simp] theorem State.writeReg_timeout (s : State) (r : RegIndex) (v : Data) :
    (s.writeReg r v).timeout = if r = .timeout then v else s.timeout := by cases r <;> rfl
@[simp] theorem State.writeReg_lastStatus (s : State) (r : RegIndex) (v : Data) : (s.writeReg r v).lastStatus = s.lastStatus := by cases r <;> rfl
@[simp] theorem State.writeReg_bytecount (s : State) (r : RegIndex) (v : Data) : (s.writeReg r v).bytecount = s.bytecount := by cases r <;> rfl
@[simp] theorem State.writeReg_lastLevel (s : State) (r : RegIndex) (v : Data) : (s.writeReg r v).lastLevel = s.lastLevel := by cases r <;> rfl
@[simp] theorem State.writeReg_rspValid (s : State) (r : RegIndex) (v : Data) : (s.writeReg r v).rspValid = s.rspValid := by cases r <;> rfl
@[simp] theorem State.writeReg_rspStatus (s : State) (r : RegIndex) (v : Data) : (s.writeReg r v).rspStatus = s.rspStatus := by cases r <;> rfl
@[simp] theorem State.writeReg_rspData (s : State) (r : RegIndex) (v : Data) : (s.writeReg r v).rspData = s.rspData := by cases r <;> rfl
@[simp] theorem State.writeReg_fault (s : State) (r : RegIndex) (v : Data) : (s.writeReg r v).fault = s.fault := by cases r <;> rfl
@[simp] theorem State.writeReg_faultCode (s : State) (r : RegIndex) (v : Data) : (s.writeReg r v).faultCode = s.faultCode := by cases r <;> rfl
@[simp] theorem State.writeReg_ext (s : State) (r : RegIndex) (v : Data) : (s.writeReg r v).ext = s.ext := by cases r <;> rfl
@[simp] theorem State.writeReg_env (s : State) (r : RegIndex) (v : Data) : (s.writeReg r v).env = s.env := by cases r <;> rfl
@[simp] theorem State.writeReg_cycle (s : State) (r : RegIndex) (v : Data) : (s.writeReg r v).cycle = s.cycle := by cases r <;> rfl
@[simp] theorem State.writeReg_line (s : State) (r : RegIndex) (v : Data) (L : LineId) :
    (s.writeReg r v).line L = s.line L := by cases r <;> rfl

/-! ## reset -/

@[simp] theorem State.reset_st : State.reset.st = .idle := rfl
@[simp] theorem State.reset_op : State.reset.op = .send := rfl
@[simp] theorem State.reset_pat : State.reset.pat = 0 := rfl
@[simp] theorem State.reset_bitidx : State.reset.bitidx = 0 := rfl
@[simp] theorem State.reset_cnt : State.reset.cnt = 0 := rfl
@[simp] theorem State.reset_wcnt : State.reset.wcnt = 0 := rfl
@[simp] theorem State.reset_wline : State.reset.wline = .data := rfl
@[simp] theorem State.reset_wto : State.reset.wto = false := rfl
@[simp] theorem State.reset_timeout : State.reset.timeout = 0 := rfl
@[simp] theorem State.reset_lastStatus : State.reset.lastStatus = .ok := rfl
@[simp] theorem State.reset_bytecount : State.reset.bytecount = 0 := rfl
@[simp] theorem State.reset_lastLevel : State.reset.lastLevel = 0 := rfl
@[simp] theorem State.reset_rspValid : State.reset.rspValid = false := rfl
@[simp] theorem State.reset_rspStatus : State.reset.rspStatus = .ok := rfl
@[simp] theorem State.reset_rspData : State.reset.rspData = 0 := rfl
@[simp] theorem State.reset_fault : State.reset.fault = false := rfl
@[simp] theorem State.reset_faultCode : State.reset.faultCode = .ok := rfl
@[simp] theorem State.reset_env : State.reset.env = [] := rfl
@[simp] theorem State.reset_cycle : State.reset.cycle = 0 := rfl
@[simp] theorem State.reset_line (L : LineId) : State.reset.line L = Line.reset := by cases L <;> rfl

/-! ## enterFault -/

@[simp] theorem State.enterFault_st (s : State) (c : Status) (a : Bool) :
    (s.enterFault c a).st = .fault := by cases a <;> rfl
@[simp] theorem State.enterFault_op (s : State) (c : Status) (a : Bool) :
    (s.enterFault c a).op = s.op := by cases a <;> rfl
@[simp] theorem State.enterFault_pat (s : State) (c : Status) (a : Bool) :
    (s.enterFault c a).pat = s.pat := by cases a <;> rfl
@[simp] theorem State.enterFault_bitidx (s : State) (c : Status) (a : Bool) :
    (s.enterFault c a).bitidx = s.bitidx := by cases a <;> rfl
@[simp] theorem State.enterFault_cnt (s : State) (c : Status) (a : Bool) :
    (s.enterFault c a).cnt = s.cnt := by cases a <;> rfl
@[simp] theorem State.enterFault_wcnt (s : State) (c : Status) (a : Bool) :
    (s.enterFault c a).wcnt = s.wcnt := by cases a <;> rfl
@[simp] theorem State.enterFault_wline (s : State) (c : Status) (a : Bool) :
    (s.enterFault c a).wline = s.wline := by cases a <;> rfl
@[simp] theorem State.enterFault_wto (s : State) (c : Status) (a : Bool) :
    (s.enterFault c a).wto = s.wto := by cases a <;> rfl
@[simp] theorem State.enterFault_settle (s : State) (c : Status) (a : Bool) :
    (s.enterFault c a).settle = s.settle := by cases a <;> rfl
@[simp] theorem State.enterFault_intpulse (s : State) (c : Status) (a : Bool) :
    (s.enterFault c a).intpulse = s.intpulse := by cases a <;> rfl
@[simp] theorem State.enterFault_timeout (s : State) (c : Status) (a : Bool) :
    (s.enterFault c a).timeout = s.timeout := by cases a <;> rfl
@[simp] theorem State.enterFault_lastStatus (s : State) (c : Status) (a : Bool) :
    (s.enterFault c a).lastStatus = if a then c else s.lastStatus := by cases a <;> rfl
@[simp] theorem State.enterFault_bytecount (s : State) (c : Status) (a : Bool) :
    (s.enterFault c a).bytecount = s.bytecount := by cases a <;> rfl
@[simp] theorem State.enterFault_lastLevel (s : State) (c : Status) (a : Bool) :
    (s.enterFault c a).lastLevel = s.lastLevel := by cases a <;> rfl
@[simp] theorem State.enterFault_rspValid (s : State) (c : Status) (a : Bool) :
    (s.enterFault c a).rspValid = a := by cases a <;> rfl
@[simp] theorem State.enterFault_rspStatus (s : State) (c : Status) (a : Bool) :
    (s.enterFault c a).rspStatus = if a then c else s.rspStatus := by cases a <;> rfl
@[simp] theorem State.enterFault_rspData (s : State) (c : Status) (a : Bool) :
    (s.enterFault c a).rspData = if a then 0 else s.rspData := by cases a <;> rfl
@[simp] theorem State.enterFault_fault (s : State) (c : Status) (a : Bool) :
    (s.enterFault c a).fault = true := by cases a <;> rfl
@[simp] theorem State.enterFault_faultCode (s : State) (c : Status) (a : Bool) :
    (s.enterFault c a).faultCode = c := by cases a <;> rfl
@[simp] theorem State.enterFault_ext (s : State) (c : Status) (a : Bool) :
    (s.enterFault c a).ext = s.ext := by cases a <;> rfl
@[simp] theorem State.enterFault_env (s : State) (c : Status) (a : Bool) :
    (s.enterFault c a).env = s.env.tail := by cases a <;> rfl
@[simp] theorem State.enterFault_cycle (s : State) (c : Status) (a : Bool) :
    (s.enterFault c a).cycle = s.cycle + 1 := by cases a <;> rfl
@[simp] theorem State.enterFault_line (s : State) (c : Status) (a : Bool) (L : LineId) :
    (s.enterFault c a).line L = ((s.line L).sample (s.padLevel L)).enterFault L := by
  cases a <;> cases L <;> rfl

/-! ## resetCycle -/

@[simp] theorem State.resetCycle_st (s : State) : s.resetCycle.st = State.reset.st := rfl
@[simp] theorem State.resetCycle_op (s : State) : s.resetCycle.op = State.reset.op := rfl
@[simp] theorem State.resetCycle_pat (s : State) : s.resetCycle.pat = State.reset.pat := rfl
@[simp] theorem State.resetCycle_bitidx (s : State) : s.resetCycle.bitidx = State.reset.bitidx := rfl
@[simp] theorem State.resetCycle_cnt (s : State) : s.resetCycle.cnt = State.reset.cnt := rfl
@[simp] theorem State.resetCycle_wcnt (s : State) : s.resetCycle.wcnt = State.reset.wcnt := rfl
@[simp] theorem State.resetCycle_wline (s : State) : s.resetCycle.wline = State.reset.wline := rfl
@[simp] theorem State.resetCycle_wto (s : State) : s.resetCycle.wto = State.reset.wto := rfl
@[simp] theorem State.resetCycle_settle (s : State) : s.resetCycle.settle = State.reset.settle := rfl
@[simp] theorem State.resetCycle_intpulse (s : State) : s.resetCycle.intpulse = State.reset.intpulse := rfl
@[simp] theorem State.resetCycle_timeout (s : State) : s.resetCycle.timeout = State.reset.timeout := rfl
@[simp] theorem State.resetCycle_lastStatus (s : State) : s.resetCycle.lastStatus = State.reset.lastStatus := rfl
@[simp] theorem State.resetCycle_bytecount (s : State) : s.resetCycle.bytecount = State.reset.bytecount := rfl
@[simp] theorem State.resetCycle_lastLevel (s : State) : s.resetCycle.lastLevel = State.reset.lastLevel := rfl
@[simp] theorem State.resetCycle_rspValid (s : State) : s.resetCycle.rspValid = State.reset.rspValid := rfl
@[simp] theorem State.resetCycle_rspStatus (s : State) : s.resetCycle.rspStatus = State.reset.rspStatus := rfl
@[simp] theorem State.resetCycle_rspData (s : State) : s.resetCycle.rspData = State.reset.rspData := rfl
@[simp] theorem State.resetCycle_fault (s : State) : s.resetCycle.fault = State.reset.fault := rfl
@[simp] theorem State.resetCycle_faultCode (s : State) : s.resetCycle.faultCode = State.reset.faultCode := rfl
@[simp] theorem State.resetCycle_ext (s : State) : s.resetCycle.ext = s.ext := rfl
@[simp] theorem State.resetCycle_env (s : State) : s.resetCycle.env = s.env.tail := rfl
@[simp] theorem State.resetCycle_cycle (s : State) : s.resetCycle.cycle = s.cycle + 1 := rfl
@[simp] theorem State.resetCycle_line (s : State) (L : LineId) :
    s.resetCycle.line L =
      { Line.reset with s1 := s.padLevel L, s2 := (s.line L).s1, ref := (s.line L).s2 } := by
  cases L <;> rfl

/-! ## Lines -/

@[simp] theorem Line.detect_claimed (l : Line) : l.detect.claimed = l.claimed := rfl
@[simp] theorem Line.detect_dir (l : Line) : l.detect.dir = l.dir := rfl
@[simp] theorem Line.detect_lvl (l : Line) : l.detect.lvl = l.lvl := rfl
@[simp] theorem Line.detect_armed (l : Line) : l.detect.armed = l.armed := rfl
@[simp] theorem Line.detect_esel (l : Line) : l.detect.esel = l.esel := rfl
@[simp] theorem Line.detect_seen (l : Line) : l.detect.seen = (l.seen || (l.armed && l.edge)) := rfl
@[simp] theorem Line.detect_s1 (l : Line) : l.detect.s1 = l.s1 := rfl
@[simp] theorem Line.detect_s2 (l : Line) : l.detect.s2 = l.s2 := rfl
@[simp] theorem Line.detect_ref (l : Line) : l.detect.ref = l.ref := rfl
@[simp] theorem Line.sample_claimed (l : Line) (p : Level) : (l.sample p).claimed = l.claimed := rfl
@[simp] theorem Line.sample_dir (l : Line) (p : Level) : (l.sample p).dir = l.dir := rfl
@[simp] theorem Line.sample_lvl (l : Line) (p : Level) : (l.sample p).lvl = l.lvl := rfl
@[simp] theorem Line.sample_armed (l : Line) (p : Level) : (l.sample p).armed = l.armed := rfl
@[simp] theorem Line.sample_esel (l : Line) (p : Level) : (l.sample p).esel = l.esel := rfl
@[simp] theorem Line.sample_seen (l : Line) (p : Level) : (l.sample p).seen = l.seen := rfl
@[simp] theorem Line.sample_s1 (l : Line) (p : Level) : (l.sample p).s1 = p := rfl
@[simp] theorem Line.sample_s2 (l : Line) (p : Level) : (l.sample p).s2 = l.s1 := rfl
@[simp] theorem Line.sample_ref (l : Line) (p : Level) : (l.sample p).ref = l.s2 := rfl
@[simp] theorem Line.claim_claimed (l : Line) (d : Dir) (v : Level) : (l.claim d v).claimed = true := rfl
@[simp] theorem Line.claim_dir (l : Line) (d : Dir) (v : Level) : (l.claim d v).dir = d := rfl
@[simp] theorem Line.claim_lvl (l : Line) (d : Dir) (v : Level) : (l.claim d v).lvl = v := rfl
@[simp] theorem Line.claim_armed (l : Line) (d : Dir) (v : Level) : (l.claim d v).armed = false := rfl
@[simp] theorem Line.claim_esel (l : Line) (d : Dir) (v : Level) : (l.claim d v).esel = .falling := rfl
@[simp] theorem Line.claim_seen (l : Line) (d : Dir) (v : Level) : (l.claim d v).seen = false := rfl
@[simp] theorem Line.claim_s1 (l : Line) (d : Dir) (v : Level) : (l.claim d v).s1 = l.s1 := rfl
@[simp] theorem Line.claim_s2 (l : Line) (d : Dir) (v : Level) : (l.claim d v).s2 = l.s2 := rfl
@[simp] theorem Line.claim_ref (l : Line) (d : Dir) (v : Level) : (l.claim d v).ref = l.ref := rfl
@[simp] theorem Line.enterFault_claimed (l : Line) (L : LineId) : (l.enterFault L).claimed = l.claimed := rfl
@[simp] theorem Line.enterFault_dir (l : Line) (L : LineId) : (l.enterFault L).dir = l.dir := rfl
@[simp] theorem Line.enterFault_armed (l : Line) (L : LineId) : (l.enterFault L).armed = false := rfl
@[simp] theorem Line.enterFault_esel (l : Line) (L : LineId) : (l.enterFault L).esel = l.esel := rfl
@[simp] theorem Line.enterFault_seen (l : Line) (L : LineId) : (l.enterFault L).seen = false := rfl
@[simp] theorem Line.enterFault_s1 (l : Line) (L : LineId) : (l.enterFault L).s1 = l.s1 := rfl
@[simp] theorem Line.enterFault_s2 (l : Line) (L : LineId) : (l.enterFault L).s2 = l.s2 := rfl
@[simp] theorem Line.enterFault_ref (l : Line) (L : LineId) : (l.enterFault L).ref = l.ref := rfl

end Sys2Proof.Machine
end

