-- ==== Sys2Proof/Laws/Ops.lean ====
section
/-! SUPPORT. What each shared operation does, said once: `raise`, `EnterFault`, the always-running updates, the wait step,
the per-cycle priority, and how the inputs move on. -/

namespace Sys2Proof.Machine

theorem Line.isOutput_iff (l : Line) : l.isOutput = true ↔ l.claimed = true ∧ l.dir = .output := by
  simp [Line.isOutput]

theorem Line.isInput_iff (l : Line) : l.isInput = true ↔ l.claimed = true ∧ l.dir = .input := by
  simp [Line.isInput]

@[simp] theorem Line.isOutput_sample (l : Line) (p : Level) : (l.sample p).isOutput = l.isOutput := rfl

@[simp] theorem Line.isOutput_detect (l : Line) : l.detect.isOutput = l.isOutput := rfl

@[simp] theorem Line.isInput_sample (l : Line) (p : Level) : (l.sample p).isInput = l.isInput := rfl

@[simp] theorem Line.isInput_detect (l : Line) : l.detect.isInput = l.isInput := rfl

theorem tick_lineKept (s : State) (L : LineId) : s.lineKept s.tick L := by
  simp [State.lineKept, State.lineSampled]

theorem raise_nonfatal {c : Status} (h : c.isFatal = false) (s : State) :
    raise c s = .next (s.tick.respond c 0) := by
  simp [raise, h]

theorem raise_fatal {c : Status} (h : c.isFatal = true) (s : State) : raise c s = .next (s.enterFault c true) := by
  simp [raise, h]

theorem respond_onlyAnswered (s : State) (c : Status) (d : Data) : s.onlyAnswered (s.tick.respond c d) c d := by
  simp [State.onlyAnswered, State.answered, State.lineKept, State.lineSampled, State.regsKept,
    State.countersKept, State.workKept, State.faultKept, State.inputsAdvanced]

theorem enterFault_lvl (s : State) (c : Status) (a : Bool) (L : LineId) :
    ((s.enterFault c a).line L).lvl = s.faultLevel L := by
  cases h : (s.line L).isOutput <;> cases L <;> simp [Line.enterFault, State.faultLevel, h]

theorem enterFault_faultEntered (s : State) (c : Status) (a : Bool) : s.faultEntered (s.enterFault c a) c := by
  simp [State.faultEntered, enterFault_lvl, State.lineSampled, State.regsKept, State.countersKept,
    State.workKept, State.inputsAdvanced, -State.enterFault_line]
  simp

/-- Everything the wait step can do (40_signal_line.md R78). -/
theorem stepWait_cases (s : State) :
    (s.waitHit = true ∧ s.st = .wAwait ∧ stepWait s = (s.tick.disarm s.wline).respond .ok 0) ∨
    (s.waitHit = true ∧ s.st ≠ .wAwait ∧ stepWait s = (s.tick.disarm s.wline).handshakeDone) ∨
    (s.waitHit = false ∧ s.inp.cancel = true ∧ stepWait s = (s.tick.disarm s.wline).respond .cancelled 0) ∨
    (s.waitHit = false ∧ s.inp.cancel = false ∧ s.waitExpires = true ∧ s.st = .wAwait ∧
      stepWait s = (s.tick.disarm s.wline).respond .timeout 0) ∨
    (s.waitHit = false ∧ s.inp.cancel = false ∧ s.waitExpires = true ∧ s.st ≠ .wAwait ∧
      stepWait s = (s.tick.disarm s.wline).respond .peripheralUnresponsive 0) ∨
    (s.waitHit = false ∧ s.inp.cancel = false ∧ s.waitExpires = false ∧ s.wto = true ∧
      stepWait s = { s.tick with wcnt := s.wcnt + 1 }) ∨
    (s.waitHit = false ∧ s.inp.cancel = false ∧ s.waitExpires = false ∧ s.wto = false ∧ stepWait s = s.tick) := by
  unfold stepWait
  by_cases h1 : s.waitHit = true
  · by_cases h2 : s.st = .wAwait <;> simp [h1, h2]
  · by_cases h3 : s.inp.cancel = true
    · simp [h1, h3]
    · by_cases h4 : s.waitExpires = true
      · by_cases h2 : s.st = .wAwait <;> simp [h1, h2, h3, h4]
      · by_cases h5 : s.wto = true <;> simp [h1, h3, h4, h5]

/-! ## The per-cycle priority (60_exceptions.md R134) -/

theorem blockCycle_reset {s : State} (h : s.inp.rst = true) : blockCycle s = .next s.resetCycle := by
  simp [blockCycle, h]

theorem blockCycle_hold {s : State} (hr : s.inp.rst = false) (h : s.st = .fault) :
    blockCycle s = .next s.tickBase := by
  simp [blockCycle, hr, h]

theorem blockCycle_lineFault {s : State} (hr : s.inp.rst = false) (hs : s.st ≠ .fault) (h : s.lineFault = true) :
    blockCycle s = .next (s.enterFault .lineFault (s.accepts || s.st != .idle)) := by
  simp [blockCycle, hr, hs, h]

theorem blockCycle_accept {s : State} (hs : s.st = .idle) (hr : s.inp.rst = false) (hl : s.lineFault = false)
    (hv : s.inp.cmdValid = true) : blockCycle s = runCommand s.inp.cmd s := by
  simp [blockCycle, hs, hr, hl, hv, State.accepts, State.cmdReady]

theorem blockCycle_fsm {s : State} (hr : s.inp.rst = false) (hs : s.st ≠ .fault) (hl : s.lineFault = false)
    (ha : s.accepts = false) : blockCycle s = .next (fsmStep s) := by
  simp [blockCycle, hr, hs, hl, ha]

theorem accepts_iff (s : State) :
    s.accepts = true ↔ s.inp.cmdValid = true ∧ s.st = .idle ∧ s.inp.rst = false := by
  simp [State.accepts, State.cmdReady]

theorem accepts_eq_false_of_busy {s : State} (h : s.st ≠ .idle) : s.accepts = false := by
  simp [State.accepts, State.cmdReady, h]

theorem lineFault_eq_false_iff (s : State) :
    s.lineFault = false ↔ ∀ L, (s.line L).claimed = true → padBit s.inp.padFault L = false := by
  constructor
  · intro h L hL
    have hm : L ∈ LineId.all := by cases L <;> simp [LineId.all]
    have := (List.any_eq_false.mp h) L hm
    simpa [hL] using this
  · intro h
    apply List.any_eq_false.mpr
    intro L _
    by_cases hc : (s.line L).claimed = true <;> simp [hc]
    simpa using h L hc

/-- A step is the block's transition with the external register's beside it. -/
theorem step_eq_next_iff (s u : State) :
    step s = .next u ↔ ∃ t, blockCycle s = .next t ∧ u = { t with ext := nextExt s t } := by
  unfold step fullCycle
  cases h : blockCycle s with
  | next t =>
    constructor
    · intro e; cases e; exact ⟨t, rfl, rfl⟩
    · rintro ⟨t', e, rfl⟩; cases e; rfl
  | fault r => simp
  | refused r => simp

theorem step_of_blockCycle {s t : State} (h : blockCycle s = .next t) :
    step s = .next { t with ext := nextExt s t } := (step_eq_next_iff s _).mpr ⟨t, h, rfl⟩

/-! ## The inputs -/

theorem inpAt_of_advanced {s t : State} (h : s.inputsAdvanced t) (j : Nat) : t.inpAt j = s.inpAt (j + 1) := by
  obtain ⟨he, hc⟩ := h
  have : t.cycle + j = s.cycle + (j + 1) := by omega
  simp [State.inpAt, he, this]

theorem quietAt_zero_lineFault {s : State} (h : s.quietAt 0) : s.inp.rst = false ∧ s.lineFault = false :=
  ⟨h.1, (lineFault_eq_false_iff s).mpr h.2⟩

theorem quietFor_of_advanced {s t : State} {k : Nat} (h : s.quietFor (k + 1)) (ha : s.inputsAdvanced t)
    (hc : ∀ L, (t.line L).claimed = (s.line L).claimed) : t.quietFor k := by
  intro j hj
  obtain ⟨hr, hf⟩ := h (j + 1) (by omega)
  refine ⟨by rw [inpAt_of_advanced ha]; exact hr, fun L hL => ?_⟩
  rw [inpAt_of_advanced ha]
  exact hf L (by rw [← hc L]; exact hL)

end Sys2Proof.Machine
end

