-- ==== Sys2Proof/Laws/PerInstr.lean ====
section
/-! SUPPORT. One lemma per constructor of Instr: the opcode of a command is the `op` field of its word
(30_encoding.md R61, R63). -/

namespace Sys2Proof.Laws

/-- The word of a command has the command's opcode in `cmd[31:28]` (30_encoding.md R61, R63). -/
def OpcodeField.Statement (i : Instr) : Prop := opField (encode i) = i.opcode

theorem OpcodeField.nop : OpcodeField.Statement .nop :=
  opField_packWord ..

theorem OpcodeField.cfgout (line : LineId) (level : Level) : OpcodeField.Statement (.cfgout line level) :=
  opField_packWord ..

theorem OpcodeField.cfgin (line : LineId) : OpcodeField.Statement (.cfgin line) :=
  opField_packWord ..

theorem OpcodeField.setlvl (line : LineId) (level : Level) : OpcodeField.Statement (.setlvl line level) :=
  opField_packWord ..

theorem OpcodeField.armedge (line : LineId) (edge : Edge) : OpcodeField.Statement (.armedge line edge) :=
  opField_packWord ..

theorem OpcodeField.waitedge (line : LineId) (timeoutEn : Bool) : OpcodeField.Statement (.waitedge line timeoutEn) :=
  opField_packWord ..

theorem OpcodeField.send (level : Data) : OpcodeField.Statement (.send level) :=
  opField_packWord ..

theorem OpcodeField.hshake : OpcodeField.Statement .hshake :=
  opField_packWord ..

theorem OpcodeField.quant (sample : Data) : OpcodeField.Statement (.quant sample) :=
  opField_packWord ..

theorem OpcodeField.xmit (sample : Data) : OpcodeField.Statement (.xmit sample) :=
  opField_packWord ..

theorem OpcodeField.wrcfg (reg : RegIndex) (value : Data) : OpcodeField.Statement (.wrcfg reg value) :=
  opField_packWord ..

theorem OpcodeField.rdcfg (reg : RegIndex) : OpcodeField.Statement (.rdcfg reg) :=
  opField_packWord ..

theorem OpcodeField.release (line : LineId) : OpcodeField.Statement (.release line) :=
  opField_packWord ..

end Sys2Proof.Laws
end

