-- ==== Sys2Proof/Laws/Reset.lean ====
section
/-! SUPPORT. The reset values of the two delays fit their registers, and what the state after reset holds. A proof uses
these and never unfolds `Config.clkFreqHz`: its bound is a large numeral. -/

namespace Sys2Proof.Machine

theorem settleRst_pos (f : Nat) : 0 < settleRst f := by
  simp only [settleRst, delayCycles]; omega

theorem intpulseRst_pos (f : Nat) : 0 < intpulseRst f := by
  simp only [intpulseRst, delayCycles]; omega

theorem settleRst_lt {f : Nat} (h : f ≤ 838860750000) : settleRst f < 2 ^ 24 := by
  simp only [settleRst, delayCycles]; omega

theorem intpulseRst_lt {f : Nat} (h : f ≤ 838860750000) : intpulseRst f < 2 ^ 24 := by
  simp only [intpulseRst, delayCycles]; omega

theorem clkFreqHz_pos : 0 < Config.clkFreqHz := Nat.succ_pos _

theorem clkFreqHz_le : Config.clkFreqHz ≤ 838860750000 := Config.clkFreqIndex.isLt

theorem resetAt_settle_toNat {f : Nat} (h : f ≤ 838860750000) : (State.resetAt f).settle.toNat = settleRst f := by
  simp only [State.resetAt, BitVec.toNat_ofNat]
  exact Nat.mod_eq_of_lt (settleRst_lt h)

theorem resetAt_intpulse_toNat {f : Nat} (h : f ≤ 838860750000) :
    (State.resetAt f).intpulse.toNat = intpulseRst f := by
  simp only [State.resetAt, BitVec.toNat_ofNat]
  exact Nat.mod_eq_of_lt (intpulseRst_lt h)

theorem reset_settle_toNat : State.reset.settle.toNat = settleRst Config.clkFreqHz :=
  resetAt_settle_toNat clkFreqHz_le

theorem reset_intpulse_toNat : State.reset.intpulse.toNat = intpulseRst Config.clkFreqHz :=
  resetAt_intpulse_toNat clkFreqHz_le

theorem reset_settle_ne_zero : State.reset.settle ≠ 0 := by
  intro h
  have := reset_settle_toNat
  rw [h] at this
  exact absurd this.symm (Nat.ne_of_gt (settleRst_pos _))

theorem reset_intpulse_ne_zero : State.reset.intpulse ≠ 0 := by
  intro h
  have := reset_intpulse_toNat
  rw [h] at this
  exact absurd this.symm (Nat.ne_of_gt (intpulseRst_pos _))

end Sys2Proof.Machine
end

