-- ==== Sys2Proof/Laws/Run.lean ====
section
/-! SUPPORT. Runs of many cycles: how `core.run` composes, and how the coming inputs shift over a run. -/

namespace Sys2Proof.Machine

theorem run_zero (s : State) : core.run 0 s = .next s := rfl

theorem run_succ {s t : State} (h : step s = .next t) (k : Nat) : core.run (k + 1) s = core.run k t := by
  have h' : core.step s = .next t := h
  simp only [Host.Core.run, h']

theorem run_add {m : Nat} {s t : State} (h : core.run m s = .next t) (n : Nat) :
    core.run (m + n) s = core.run n t := by
  induction m generalizing s with
  | zero => cases h; rw [Nat.zero_add]
  | succ m ih =>
    cases hs : step s with
    | next u =>
      rw [run_succ hs] at h
      rw [Nat.add_right_comm, run_succ hs]
      exact ih h
    | fault r => cases r
    | refused r =>
      have h' : core.step s = .refused r := hs
      simp only [Host.Core.run, h'] at h
      cases h

theorem run_one {s t : State} (h : step s = .next t) : core.run 1 s = .next t := run_succ h 0

/-- The inputs have moved on by `n` cycles. -/
def State.advancedBy (s t : State) (n : Nat) : Prop := t.env = s.env.drop n ∧ t.cycle = s.cycle + n

theorem advancedBy_zero (s : State) : s.advancedBy s 0 := ⟨rfl, rfl⟩

theorem advancedBy_one {s t : State} (h : s.inputsAdvanced t) : s.advancedBy t 1 := by
  obtain ⟨he, hc⟩ := h
  exact ⟨by rw [he, List.drop_one], hc⟩

theorem advancedBy_trans {s t u : State} {m n : Nat} (h : s.advancedBy t m) (h' : t.advancedBy u n) :
    s.advancedBy u (m + n) := by
  obtain ⟨he, hc⟩ := h
  obtain ⟨he', hc'⟩ := h'
  exact ⟨by rw [he', he, List.drop_drop], by rw [hc', hc, Nat.add_assoc]⟩

theorem inpAt_of_advancedBy {s t : State} {n : Nat} (h : s.advancedBy t n) (j : Nat) :
    t.inpAt j = s.inpAt (n + j) := by
  obtain ⟨he, hc⟩ := h
  simp only [State.inpAt, he, hc, List.getElem?_drop, Nat.add_assoc]

theorem quietFor_of_advancedBy {s t : State} {n k : Nat} (h : s.quietFor (n + k)) (ha : s.advancedBy t n)
    (hc : ∀ L, (t.line L).claimed = true → (s.line L).claimed = true) : t.quietFor k := by
  intro j hj
  obtain ⟨hr, hf⟩ := h (n + j) (by omega)
  refine ⟨by rw [inpAt_of_advancedBy ha]; exact hr, fun L hL => ?_⟩
  rw [inpAt_of_advancedBy ha]
  exact hf L (hc L hL)

theorem quietFor_zero {s : State} {k : Nat} (h : s.quietFor k) (hk : 0 < k) : s.quietAt 0 := h 0 hk

theorem quietFor_mono {s : State} {k m : Nat} (h : s.quietFor k) (hm : m ≤ k) : s.quietFor m :=
  fun j hj => h j (Nat.lt_of_lt_of_le hj hm)

/-- This cycle's level of a pad is the first of those to come. -/
theorem padLevelAt_zero (s : State) (L : LineId) : s.padLevelAt L 0 = s.padLevel L := rfl

/-- The levels of a pad that stays an input, or stays driven at one level, shift by one in each cycle. -/
theorem padLevelAt_of_advanced {s t : State} {L : LineId} (ha : s.inputsAdvanced t) (ho : t.padOe L = s.padOe L)
    (hv : s.padOe L = true → t.padOut L = s.padOut L) (j : Nat) : t.padLevelAt L j = s.padLevelAt L (j + 1) := by
  unfold State.padLevelAt
  rw [ho, inpAt_of_advanced ha]
  by_cases h : s.padOe L = true
  · rw [if_pos h, if_pos h, hv h]
  · rw [if_neg h, if_neg h]

/-- The synchronised levels of a line to come, from a later state of the run: each cycle shifts them by one, where the
line stays an input or stays driven at one level (10_state.md R22, R23). -/
theorem syncAt_of_sampled {s t : State} {L : LineId} (hl : s.lineSampled t L) (ha : s.inputsAdvanced t)
    (ho : t.padOe L = s.padOe L) (hv : s.padOe L = true → t.padOut L = s.padOut L) (j : Nat) :
    t.syncAt L j = s.syncAt L (j + 1) := by
  obtain ⟨h1, h2, h3⟩ := hl
  match j with
  | 0 => exact h3
  | 1 => exact h2
  | 2 => exact h1
  | j + 3 => exact padLevelAt_of_advanced ha ho hv j

/-- The same for a line that is kept. -/
theorem syncAt_of_kept {s t : State} {L : LineId} (hl : s.lineKept t L) (ha : s.inputsAdvanced t) (j : Nat) :
    t.syncAt L j = s.syncAt L (j + 1) := by
  obtain ⟨hc, hd, hv, _, _, _, hs⟩ := hl
  exact syncAt_of_sampled hs ha (by simp only [State.padOe, Line.isOutput, hc, hd]) (fun _ => hv) j

end Sys2Proof.Machine
end

