-- ==== Sys2Proof/Tests/Slice0.lean ====
section
/-! SUPPORT. The model's own tests: words decoded, ill-formed commands refused, one step of each command, and for each
obligation with hypotheses a concrete state that meets them. Expected results are those of spec/95_test_vectors.md and
of the rules named beside them. -/

namespace Sys2Proof.Tests

open Sys2Proof Sys2Proof.Machine

/-! ## Encoding -/

/-- The assembler vectors of 95_test_vectors.md section 2, by the decoder. -/
theorem test_decode_vectors :
    decode 0x00000000 = .ok .nop ∧ decode 0x17000000 = .ok (.cfgout .interrupt true) ∧
    decode 0x1C000000 = .ok (.cfgout .gpio1 false) ∧ decode 0x2A000000 = .ok (.cfgin .gpio0) ∧
    decode 0x3D000000 = .ok (.setlvl .gpio1 true) ∧ decode 0x4A000000 = .ok (.armedge .gpio0 .falling) ∧
    decode 0x4B000000 = .ok (.armedge .gpio0 .rising) ∧ decode 0x5A000000 = .ok (.waitedge .gpio0 false) ∧
    decode 0x5B000000 = .ok (.waitedge .gpio0 true) := by decide

theorem test_decode_vectors_rest :
    decode 0x60000005 = .ok (.send 5) ∧ decode 0x70000000 = .ok .hshake ∧
    decode 0x80FFFFFB = .ok (.quant 0xFFFFFB) ∧ decode 0x9000012C = .ok (.xmit 300) ∧
    decode 0xA40003E8 = .ok (.wrcfg .timeout 1000) ∧ decode 0xBC000000 = .ok (.rdcfg .xferinfo) ∧
    decode 0xBE000000 = .ok (.rdcfg .reserved7) ∧ decode 0xC8000000 = .ok (.release .ack) := by decide

/-- Words written out bit by bit from 30_encoding.md R61 and R63: `op ++ line ++ f ++ imm`. -/
theorem test_decode_bits :
    decode 0b0001_110_0_000000000000000000000000 = .ok (.cfgout .gpio1 false) ∧
    decode 0b0100_101_1_000000000000000000000000 = .ok (.armedge .gpio0 .rising) ∧
    decode 0b0110_000_0_000000000000000000000101 = .ok (.send 5) ∧
    decode 0b1010_001_0_000000000000000000010100 = .ok (.wrcfg .intpulse 20) ∧
    decode 0b1100_111_0_000000000000000000000000 = .ok (.release .gpio2) := by decide

/-- Nonzero should-be-zero fields and reserved opcodes (95_test_vectors.md section 2, 30_encoding.md R64, R66). -/
theorem test_decode_errors :
    decode 0x00000001 = .error .nonzeroSbz ∧ decode 0x21000000 = .error .nonzeroSbz ∧
    decode 0x61000000 = .error .nonzeroSbz ∧ decode 0x71000000 = .error .nonzeroSbz ∧
    decode 0xC1000000 = .error .nonzeroSbz ∧ decode 0xD0000000 = .error .reservedOpcode ∧
    decode 0xE1234567 = .error .reservedOpcode ∧ decode 0xFFFFFFFF = .error .reservedOpcode := by decide

/-- No two rows of the bit-pattern table overlap: some bit fixed in both differs (30_encoding.md R67). -/
theorem test_rows_disjoint :
    opcodeRows.Pairwise fun r r' => r.pattern &&& r'.mask ≠ r'.pattern &&& r.mask := by decide

theorem test_assemble :
    assemble "setlvl gpio1, high" = some [0x3D000000] ∧ assemble "waitedge gpio0, timeout" = some [0x5B000000] ∧
    assemble "quant -5" = some [0x80FFFFFB] ∧ assemble "wrcfg timeout, 1000" = some [0xA40003E8] := by decide

theorem test_assemble_pseudo :
    assemble "settimeout 20" = some [0xA4000014] ∧ assemble "rdstat" = some [0xB6000000] ∧
    assemble "send 6" = none := by decide

/-- Each check of WellFormed refuses an ill-formed command, and takes its neighbour (30_encoding.md R65 (a) to (e)). -/
theorem test_wellFormed_send : (Instr.send 6).wellFormed = false ∧ (Instr.send 5).wellFormed = true := by decide
theorem test_wellFormed_wrcfg_readOnly :
    (Instr.wrcfg .laststat 5).wellFormed = false ∧ (Instr.wrcfg .timeout 5).wellFormed = true := by decide
theorem test_wellFormed_wrcfg_zero :
    (Instr.wrcfg .settle 0).wellFormed = false ∧ (Instr.wrcfg .intpulse 0).wellFormed = false ∧
    (Instr.wrcfg .timeout 0).wellFormed = true := by decide
theorem test_wellFormed_rdcfg :
    (Instr.rdcfg .reserved7).wellFormed = false ∧ (Instr.rdcfg .xferinfo).wellFormed = true := by decide
theorem test_wellFormed_cfgout :
    (Instr.cfgout .interrupt false).wellFormed = false ∧ (Instr.cfgout .interrupt true).wellFormed = true := by decide

/-! ## Small states -/

/-- Inputs of a cycle in which nothing happens, every pad HIGH. -/
def quiet : Inputs := { rst := false, cmdValid := false, cmd := 0, cancel := false, padExt := 0xFF, padFault := 0 }

/-- The same with a word offered. -/
def offer (w : Word) : Inputs := { quiet with cmdValid := true, cmd := w }

/-- The same with the ack pad LOW. -/
def ackLow : Inputs := { quiet with padExt := 0xEF }

def outLine (v : Level) : Line :=
  { claimed := true, dir := .output, lvl := v, armed := false, esel := .falling, seen := false,
    s1 := true, s2 := true, ref := true }

def inLine : Line :=
  { claimed := true, dir := .input, lvl := false, armed := false, esel := .falling, seen := false,
    s1 := true, s2 := true, ref := true }

def armedLine : Line := { inLine with armed := true }

/-- After `linkinit`, with `S` in SETTLE, INTPULSE 1 and TIMEOUT 100 (95_test_vectors.md section 9). -/
def linked (S : Data) (env : List Inputs) : State :=
  { State.reset with
    settle := S, intpulse := 1, timeout := 100, env := env
    lines := { data := outLine false, clock := outLine false, latch := outLine false, interrupt := outLine true,
               ack := inLine, gpio0 := Line.reset, gpio1 := Line.reset, gpio2 := Line.reset } }

/-- After reset, with SETTLE and INTPULSE 1. -/
def fresh (env : List Inputs) : State := { State.reset with settle := 1, intpulse := 1, env := env }

/-- As `linked`, gpio0 an armed input, gpio1 an output that is LOW. -/
def wired (env : List Inputs) : State :=
  { linked 1 env with
    lines := { (linked 1 env).lines with gpio0 := armedLine, gpio1 := outLine false } }

/-- As `linked`, in the middle of a byte of an XMIT. -/
def shiftingIn (st : FsmState) (S cnt : Data) (bit : BitVec 3) (op : Op) (env : List Inputs) : State :=
  { linked S env with st := st, op := op, pat := 2, bitidx := bit, cnt := cnt }

/-- A wait for gpio0 in W_AWAIT, TIMEOUT 3. -/
def gpioWait (wcnt : Data) (wto : Bool) (env : List Inputs) : State :=
  { wired env with st := .wAwait, op := .wait, wline := .gpio0, wcnt := wcnt, wto := wto, timeout := 3 }

/-- A wait for ack in I_AWAIT, TIMEOUT 3. -/
def ackWait (op : Op) (wcnt : Data) (wto : Bool) (env : List Inputs) : State :=
  { linked 1 env with
    st := .iAwait, op := op, pat := 2, wline := .ack, wcnt := wcnt, wto := wto, timeout := 3
    lines := { (linked 1 env).lines with ack := armedLine } }

/-- What a next state shows, none where there is none. -/
def showing {α : Type} (r : Result) (f : State → α) : Option α :=
  match r with
  | .next t => some (f t)
  | .fault _ => none
  | .refused _ => none

/-- Status and data of a response, none where there is no response. -/
def response (t : State) : Option (Nat × Nat) :=
  if t.rspValid then some (t.rspStatusPort.toNat, t.rspData.toNat) else none

/-! ## One step of each command -/

theorem test_nop : showing (exec .nop (fresh [quiet])) response = some (some (0, 0)) := by decide

/-- V-S1. -/
theorem test_cfgout :
    showing (exec (.cfgout .gpio1 false) (fresh [quiet])) (fun t => (response t, t.padOe .gpio1, t.padOut .gpio1)) =
      some (some (0, 0), true, false) := by decide
/-- V-S5: ack is an input, and the error is fatal. -/
theorem test_cfgout_ack :
    showing (exec (.cfgout .ack true) (fresh [quiet])) (fun t => (response t, t.st, t.faultCodePort)) =
      some (some (1, 0), .fault, 1) := by decide

/-- V-S3. -/
theorem test_cfgin :
    showing (exec (.cfgin .gpio0) (fresh [quiet])) (fun t => (response t, t.linecfg)) = some (some (0, 0), 0x008000) := by
  decide
/-- V-S6. -/
theorem test_cfgin_data :
    showing (exec (.cfgin .data) (fresh [quiet])) (fun t => (response t, t.fault)) = some (some (1, 0), true) := by
  decide

/-- V-S1. -/
theorem test_setlvl :
    showing (exec (.setlvl .gpio1 true) (wired [quiet])) (fun t => (response t, t.padOut .gpio1)) =
      some (some (0, 0), true) := by decide
/-- V-S7. -/
theorem test_setlvl_role :
    showing (exec (.setlvl .data true) (wired [quiet])) (fun t => (response t, t.st, t.padOut .data)) =
      some (some (1, 0), .fault, false) := by decide

/-- 40_signal_line.md R76: a pending edge is discarded, the edge is selected. -/
theorem test_armedge :
    showing (exec (.armedge .gpio0 .rising)
        { wired [quiet] with lines := { (wired [quiet]).lines with gpio0 := { armedLine with seen := true } } })
      (fun t => (response t, (t.line .gpio0).armed, (t.line .gpio0).esel, (t.line .gpio0).seen)) =
      some (some (0, 0), true, .rising, false) := by decide
/-- V-S8. -/
theorem test_armedge_output :
    showing (exec (.armedge .gpio1 .rising) (wired [quiet])) (fun t => (response t, t.st)) =
      some (some (1, 0), .fault) := by decide

/-- 40_signal_line.md R77: the issue cycle answers nothing yet. -/
theorem test_waitedge :
    showing (exec (.waitedge .gpio0 true) (wired [quiet])) (fun t => (response t, t.st, t.wcnt, t.wto)) =
      some (none, .wAwait, 0, true) := by decide
/-- V-W9. -/
theorem test_waitedge_ack :
    showing (exec (.waitedge .ack false) (linked 1 [quiet])) (fun t => (response t, t.st)) =
      some (some (1, 0), .fault) := by decide

/-- V-L1, cycle n+1. -/
theorem test_send :
    showing (exec (.send 5) (linked 1 [quiet])) (fun t => (response t, t.st, t.pat, t.bitidx, t.padOut .data)) =
      some (none, .sData, 5, 7, false) := by decide
/-- V-L3. -/
theorem test_send_unclaimed :
    showing (exec (.send 5) (fresh [quiet])) (fun t => (response t, t.st)) = some (some (1, 0), .fault) := by decide

/-- V-H1, cycle n+1. -/
theorem test_hshake :
    showing (exec .hshake (linked 1 [quiet])) (fun t => (response t, t.st, t.padOut .interrupt)) =
      some (none, .iAssert, false) := by decide
/-- V-H8. -/
theorem test_hshake_unclaimed :
    showing (exec .hshake (fresh [quiet])) (fun t => (response t, t.st)) = some (some (1, 0), .fault) := by decide

/-- V-Q1. -/
theorem test_quant :
    showing (exec (.quant 39) (fresh [quiet])) response = some (some (0, 3)) ∧
    showing (exec (.quant 40) (fresh [quiet])) response = some (some (0, 4)) := by decide
theorem test_quant_out_of_range :
    showing (exec (.quant 256) (fresh [quiet])) response = some (some (5, 0)) ∧
    showing (exec (.quant 0xFFFFFF) (fresh [quiet])) response = some (some (5, 0)) := by decide

/-- V-X1, cycle n+1. -/
theorem test_xmit :
    showing (exec (.xmit 25) (linked 1 [quiet])) (fun t => (response t, t.st, t.op, t.pat)) =
      some (none, .sData, .xmit, 2) := by decide
/-- V-X4, V-X2: missing lines come before the sample. -/
theorem test_xmit_order :
    showing (exec (.xmit 300) (fresh [quiet])) response = some (some (1, 0)) ∧
    showing (exec (.xmit 256) (linked 1 [quiet])) response = some (some (5, 0)) := by decide

/-- V-C1. -/
theorem test_wrcfg :
    showing (exec (.wrcfg .timeout 1000) (fresh [quiet])) (fun t => (response t, t.timeout)) =
      some (some (0, 0), 1000) := by decide
/-- V-C2. -/
theorem test_wrcfg_zero :
    showing (exec (.wrcfg .settle 0) (fresh [quiet])) (fun t => (response t, t.settle)) = some (some (7, 0), 1) := by
  decide

/-- V-C4, V-C5. -/
theorem test_rdcfg :
    showing (exec (.rdcfg .linecfg) (linked 1 [quiet])) response = some (some (0, 0x0016DB)) ∧
    showing (exec (.rdcfg .linelvl) (linked 1 [quiet])) response = some (some (0, 0x000018)) := by decide
/-- 10_state.md R15, R17, R22: a pad the block drives LOW is sampled LOW, whatever the outside has; an input and an
unclaimed pad are sampled as the outside has them. -/
theorem test_driven_pad_reads_back :
    showing (step (wired [quiet])) (fun t => ((t.line .gpio1).s1, (t.line .gpio0).s1, (t.line .gpio2).s1)) =
      some (false, true, true) := by decide
/-- P1 and P4: `last_level` over `bytecount`. -/
theorem test_rdcfg_xferinfo :
    showing (exec (.rdcfg .xferinfo) { fresh [quiet] with lastLevel := 5, bytecount := 4 }) response =
      some (some (0, 0x050004)) := by decide

/-- V-S10. -/
theorem test_release :
    showing (exec (.release .gpio1) (wired [quiet])) (fun t => (response t, t.padOe .gpio1)) =
      some (some (0, 0), false) := by decide
/-- V-S9. -/
theorem test_release_unclaimed :
    showing (exec (.release .gpio0) (fresh [quiet])) (fun t => (response t, t.line .gpio0 == Line.reset)) =
      some (some (0, 0), true) := by decide

/-- V-F1: a line fault in IDLE gives no response. -/
theorem test_line_fault :
    showing (step (linked 1 [{ quiet with padFault := 0b00001000 }])) (fun t => (response t, t.st, t.faultCodePort)) =
      some (none, .fault, 2) := by decide
/-- V-F2: a report on an unclaimed line is ignored. -/
theorem test_line_fault_unclaimed :
    showing (step (linked 1 [{ quiet with padFault := 0b01000000 }])) (fun t => (response t, t.st)) =
      some (none, .idle) := by decide
/-- V-F5: the command is not executed. -/
theorem test_line_fault_command :
    showing (step (linked 1 [{ offer 0x80000031 with padFault := 1 }])) response = some (some (2, 0)) := by decide

/-- The host's two entry points on a word of 95_test_vectors.md: `quant 49` as the first instruction after reset. -/
theorem test_withFetchWord :
    decodeTableWord 32 0x80000031 = some (.quant 49) ∧
    showing (step (State.reset.withFetchWord 32 0x80000031)) response = some (some (0, 4)) := by decide

/-! ## Reset values (95_test_vectors.md section 3) -/

theorem test_reset_values :
    settleRst 50000000 = 50 ∧ intpulseRst 50000000 = 1000 ∧ settleRst 500000 = 1 ∧ intpulseRst 500000 = 10 ∧
    settleRst 32768 = 1 ∧ intpulseRst 32768 = 1 := by decide

/-- The bound of `Config.clkFreqIndex` admits just the frequencies 00_scope.md R8 admits. -/
theorem test_freq_bound : admittedFreq 838860750000 = true ∧ admittedFreq 838860750001 = false := by decide

/-! ## Witnesses: for each obligation with hypotheses, a state that meets them, one part for each of its clauses -/

theorem padBit_zero (L : LineId) : padBit 0 L = false := by cases L <;> rfl

theorem quietAt_of {s : State} {j : Nat} (hr : (s.inpAt j).rst = false) (hf : (s.inpAt j).padFault = 0) :
    s.quietAt j := ⟨hr, fun L _ => by rw [hf]; exact padBit_zero L⟩

/-- A cycle of `env` without reset and line fault is quiet. -/
def calm (i : Inputs) : Prop := i.rst = false ∧ i.padFault = 0

theorem quietFor_of_env {s : State} (h : ∀ i ∈ s.env, calm i) {k : Nat} (hk : k ≤ s.env.length) : s.quietFor k := by
  intro j hj
  have hj' : j < s.env.length := Nat.lt_of_lt_of_le hj hk
  have hi : s.inpAt j = s.env[j] := by simp [State.inpAt, List.getElem?_eq_getElem hj']
  obtain ⟨hr, hf⟩ := h _ (List.getElem_mem hj')
  exact quietAt_of (by rw [hi]; exact hr) (by rw [hi]; exact hf)

theorem uncancelledFor_of_env {s : State} (h : ∀ i ∈ s.env, i.cancel = false) {k : Nat} (hk : k ≤ s.env.length) :
    s.uncancelledFor k := by
  intro j hj
  have hj' : j < s.env.length := Nat.lt_of_lt_of_le hj hk
  have hi : s.inpAt j = s.env[j] := by simp [State.inpAt, List.getElem?_eq_getElem hj']
  rw [hi]; exact h _ (List.getElem_mem hj')

theorem witness_EncodeOfDecode : decode 0x60000005 = .ok (.send 5) := by decide

theorem witness_DecodeFollowsTheBitPatterns :
    decode 0x2A000000 = .ok (.cfgin .gpio0) ∧
    (⟨"CFGIN", 0x20000000, 0xF1FFFFFF⟩ ∈ opcodeRows ∧ (0x2A000000 : Word) &&& 0xF1FFFFFF = 0x20000000) ∧
    decode 0x21000000 = .error .nonzeroSbz ∧ decode 0xD0000000 = .error .reservedOpcode := by decide

/-- A number of one decimal digit. -/
theorem number_one {c : Char} {d : Nat} (h : IsDigit c d) (hd : d < 10) : NumberText (String.ofList [c]) d :=
  .dec (.one h hd)

/-- `0x800001`, the least number above 2^23, and `0x1000000`, 2^24. -/
theorem number_sample_bound : NumberText "0x800001" 8388609 :=
  .hex (.more (.more (.more (.more (.more (.one (c := '8') (d := 8) (.inl rfl) (by decide))
    (c := '0') (d := 0) (.inl rfl) (by decide)) (c := '0') (d := 0) (.inl rfl) (by decide))
    (c := '0') (d := 0) (.inl rfl) (by decide)) (c := '0') (d := 0) (.inl rfl) (by decide))
    (c := '1') (d := 1) (.inl rfl) (by decide))

theorem number_value_bound : NumberText "0x1000000" 16777216 :=
  .hex (.more (.more (.more (.more (.more (.more (.one (c := '1') (d := 1) (.inl rfl) (by decide))
    (c := '0') (d := 0) (.inl rfl) (by decide)) (c := '0') (d := 0) (.inl rfl) (by decide))
    (c := '0') (d := 0) (.inl rfl) (by decide)) (c := '0') (d := 0) (.inl rfl) (by decide))
    (c := '0') (d := 0) (.inl rfl) (by decide)) (c := '0') (d := 0) (.inl rfl) (by decide))

/-- Rows with words of 95_test_vectors.md section 2 and of R70, and operands at the bounds, just inside and just outside. -/
theorem witness_AssemblerEmitsCommands :
    (AsmRow "send 5" 0x60000005 ∧ AsmRow "quant -5" 0x80FFFFFB ∧ AsmRow "cfgout 6, low" 0x1C000000 ∧
      AsmRow "armedge gpio0, rising" 0x4B000000 ∧ AsmRow "waitedge gpio0, timeout" 0x5B000000 ∧
      AsmRow "wrcfg timeout, 0" 0xA4000000 ∧ AsmRow "rdcfg 6" 0xBC000000 ∧ AsmRow "release ack" 0xC8000000) ∧
    (NumberText "0" 0 ∧ assemble "release ack" = some [0xC8000000] ∧ (0xC8000000 : Word) ∈ [(0xC8000000 : Word)]) ∧
    (SampleText "-0x800001" (-8388609) ∧ SampleText "6" 6 ∧ SampleText "-5" (-5) ∧ SampleText "0x1000000" 16777216 ∧
      RegText "timeout" .timeout) ∧
    NumberText "8" 8 ∧ NumberText "7" 7 :=
  have n0 : NumberText "0" 0 := number_one (.inl rfl) (by decide)
  have n5 : NumberText "5" 5 := number_one (.inl rfl) (by decide)
  have n6 : NumberText "6" 6 := number_one (.inl rfl) (by decide)
  ⟨⟨.send n5 (by decide), .quant (.minus n5) (by decide) (by decide), .cfgout (L := .gpio1) (f := false) (.inr n6) (.inl rfl),
      .armedge (L := .gpio0) (e := .rising) (.inl rfl) rfl, .waitedgeTimeout (L := .gpio0) (.inl rfl),
      .wrcfg (r := .timeout) (.inl rfl) n0 (by decide), .rdcfg (r := .xferinfo) (.inr n6),
      .release (L := .ack) (.inl rfl)⟩,
    ⟨n0, by decide, by decide⟩,
    ⟨.minus number_sample_bound, .plain n6, .minus n5, .plain number_value_bound, .inl rfl⟩,
    number_one (.inl rfl) (by decide), number_one (.inl rfl) (by decide)⟩

theorem witness_ResetTransition : (wired [{ quiet with rst := true }]).inp.rst = true := by decide

/-- A byte of an XMIT in S_CLKH, its next to last bit, which is 1. -/
def midByte : State :=
  { shiftingIn .sClkH 2 1 1 .xmit [quiet] with
    lines := { (linked 2 []).lines with data := outLine true, clock := outLine true } }

theorem witness_StepKeepsInvariant : midByte.Inv ∧ ∃ t, step midByte = .next t := by
  refine ⟨?_, _, rfl⟩
  constructor
  · intro L; constructor <;> cases L <;> decide
  all_goals decide

theorem witness_StepRunsTheAcceptedCommand :
    (fresh [offer 0x80000031]).st = .idle ∧ (fresh [offer 0x80000031]).quietAt 0 ∧
    (fresh [offer 0x80000031]).inp.cmdValid = true ∧ decode (fresh [offer 0x80000031]).inp.cmd = .ok (.quant 49) ∧
    ∃ t, exec (.quant 49) (fresh [offer 0x80000031]) = .next t :=
  ⟨rfl, quietAt_of rfl rfl, rfl, by decide, _, rfl⟩

theorem witness_IllegalWordsAreAnswered :
    (fresh [offer 0x00000001]).st = .idle ∧ (fresh [offer 0x00000001]).quietAt 0 ∧
    (fresh [offer 0x00000001]).inp.cmdValid = true ∧
    decode (fresh [offer 0x00000001]).inp.cmd = .error .nonzeroSbz :=
  ⟨rfl, quietAt_of rfl rfl, rfl, by decide⟩

theorem witness_IdleWithNoCommandHolds :
    (wired [quiet]).st = .idle ∧ (wired [quiet]).quietAt 0 ∧ (wired [quiet]).inp.cmdValid = false :=
  ⟨rfl, quietAt_of rfl rfl, rfl⟩

/-- A driven line, an input and an unclaimed line. -/
theorem witness_SynchronisersAlwaysSample :
    (∃ t u v, step (wired [quiet, quiet, quiet]) = .next t ∧ step t = .next u ∧ step u = .next v) ∧
    (((wired [quiet]).line .gpio1).claimed = true ∧ ((wired [quiet]).line .gpio1).dir = .output) ∧
    ¬(((wired [quiet]).line .gpio0).claimed = true ∧ ((wired [quiet]).line .gpio0).dir = .output) ∧
    ¬(((wired [quiet]).line .gpio2).claimed = true ∧ ((wired [quiet]).line .gpio2).dir = .output) :=
  ⟨⟨_, _, _, rfl, rfl, rfl⟩, by decide, by decide, by decide⟩

theorem witness_EdgesAreLatched :
    (wired [quiet]).quietAt 0 ∧ (wired [quiet]).accepts = false ∧ (wired [quiet]).st ≠ .fault ∧
    ¬((wired [quiet]).st.waiting = true ∧ (wired [quiet]).wline = .gpio0) ∧
    ¬((wired [quiet]).st = .iAssert ∧ LineId.gpio0 = .ack) ∧ ∃ t, step (wired [quiet]) = .next t :=
  ⟨quietAt_of rfl rfl, by decide, by decide, by decide, by decide, _, rfl⟩

theorem witness_ResponsesLastOneCycle :
    (∃ t u, step (fresh [offer 0, quiet]) = .next t ∧ t.rspValid = true ∧ t.accepts = false ∧ step t = .next u) ∧
    (∃ t, step (fresh [quiet]) = .next t ∧ t.rspValid = false ∧ (fresh [quiet]).inp.rst = false) ∧
    (fresh [offer 0]).inp.rst = false ∧ (fresh [offer 0]).accepts = true ∧
    (shiftingIn .lHigh 2 2 0 .send [quiet]).busy = true :=
  ⟨⟨_, _, rfl, by decide, by decide, rfl⟩, ⟨_, rfl, by decide, rfl⟩, rfl, by decide, by decide⟩

theorem witness_FaultHoldsUntilReset :
    ({ linked 1 [offer 0] with st := .fault, fault := true, faultCode := .lineFault } : State).st = .fault ∧
    ({ linked 1 [offer 0] with st := .fault, fault := true, faultCode := .lineFault } : State).inp.rst = false :=
  ⟨rfl, rfl⟩

/-- In the middle of a byte, with a command accepted, and in IDLE without one. -/
theorem witness_LineFaultEntersFault :
    ((shiftingIn .sClkH 2 1 1 .xmit [{ quiet with padFault := 2 }]).inp.rst = false ∧
      (shiftingIn .sClkH 2 1 1 .xmit [{ quiet with padFault := 2 }]).st ≠ .fault ∧
      ((shiftingIn .sClkH 2 1 1 .xmit [{ quiet with padFault := 2 }]).line .clock).claimed = true ∧
      padBit (shiftingIn .sClkH 2 1 1 .xmit [{ quiet with padFault := 2 }]).inp.padFault .clock = true ∧
      (shiftingIn .sClkH 2 1 1 .xmit [{ quiet with padFault := 2 }]).st ≠ .idle) ∧
    ((linked 1 [{ quiet with padFault := 8 }]).inp.rst = false ∧ (linked 1 [{ quiet with padFault := 8 }]).st = .idle ∧
      ((linked 1 [{ quiet with padFault := 8 }]).line .interrupt).claimed = true ∧
      padBit (linked 1 [{ quiet with padFault := 8 }]).inp.padFault .interrupt = true ∧
      (linked 1 [{ quiet with padFault := 8 }]).inp.cmdValid = false) ∧
    (linked 1 [{ offer 0 with padFault := 8 }]).inp.cmdValid = true := by decide

theorem witness_UnclaimedFaultsAreIgnored :
    (linked 1 [{ quiet with padFault := 0xE0 }]).env = { quiet with padFault := 0xE0 } :: [] ∧
    ∀ L, ((linked 1 [{ quiet with padFault := 0xE0 }]).line L).claimed = true → padBit 0xE0 L = false :=
  ⟨rfl, fun L => by cases L <;> decide⟩

theorem witness_CancelActsOnlyInWaits :
    (linked 1 [quiet]).env = quiet :: [] ∧ (linked 1 [quiet]).st.waiting = false := ⟨rfl, rfl⟩

theorem witness_CommandIsReadOnlyWhenAccepted :
    (linked 1 [quiet]).env = quiet :: [] ∧ (linked 1 [quiet]).accepts = false ∧
    (shiftingIn .sClkH 2 1 1 .xmit [quiet]).env = quiet :: [] ∧ (shiftingIn .sClkH 2 1 1 .xmit [quiet]).st ≠ .idle := by
  decide

theorem witness_CfgoutClaimsAnOutput :
    (¬(LineId.interrupt = .interrupt ∧ true = false) ∧ LineId.interrupt ≠ .ack ∧
      ((fresh [quiet]).line .interrupt).claimed = false) ∧
    ¬(LineId.gpio2 = .interrupt ∧ false = false) ∧ LineId.gpio2 ≠ .ack ∧
      ((fresh [quiet]).line .gpio2).claimed = false := by decide

theorem witness_CfginClaimsAnInput :
    ((fresh [quiet]).line .ack).claimed = false ∧ ((fresh [quiet]).line .gpio2).claimed = false := by decide

theorem witness_SetlvlDrivesALine :
    isRole .gpio1 = false ∧ ((wired [quiet]).line .gpio1).claimed = true ∧
    ((wired [quiet]).line .gpio1).dir = .output := by decide

theorem witness_ArmedgeArmsALine :
    isRole .gpio0 = false ∧ ((wired [quiet]).line .gpio0).claimed = true ∧
    ((wired [quiet]).line .gpio0).dir = .input := by decide

theorem witness_WaitedgeStartsAWait :
    isRole .gpio0 = false ∧ ((wired [quiet]).line .gpio0).claimed = true ∧
    ((wired [quiet]).line .gpio0).dir = .input ∧ ((wired [quiet]).line .gpio0).armed = true := by decide

theorem witness_SendStartsShifting :
    (5 : Data).toNat ≤ 5 ∧ ∀ L, (L = .data ∨ L = .clock ∨ L = .latch) →
      ((linked 1 [quiet]).line L).claimed = true ∧ ((linked 1 [quiet]).line L).dir = .output :=
  ⟨by decide, fun L => by cases L <;> decide⟩

theorem witness_HshakeAssertsTheInterrupt :
    ((linked 1 [quiet]).line .interrupt).claimed = true ∧ ((linked 1 [quiet]).line .interrupt).dir = .output ∧
    ((linked 1 [quiet]).line .ack).claimed = true ∧ ((linked 1 [quiet]).line .ack).dir = .input := by decide

theorem witness_QuantAnswersTheLevel :
    (0 ≤ (0 : Data).toInt ∧ (0 : Data).toInt ≤ 255) ∧ 0 ≤ (255 : Data).toInt ∧ (255 : Data).toInt ≤ 255 := by decide

theorem witness_XmitStartsShifting :
    0 ≤ (255 : Data).toInt ∧ (255 : Data).toInt ≤ 255 ∧
    (∀ L, (L = .data ∨ L = .clock ∨ L = .latch ∨ L = .interrupt) →
      ((linked 1 [quiet]).line L).claimed = true ∧ ((linked 1 [quiet]).line L).dir = .output) ∧
    ((linked 1 [quiet]).line .ack).claimed = true ∧ ((linked 1 [quiet]).line .ack).dir = .input :=
  ⟨by decide, by decide, fun L => by cases L <;> decide, rfl, rfl⟩

theorem witness_WrcfgWritesARegister :
    ((RegIndex.settle = .settle ∨ RegIndex.settle = .intpulse ∨ RegIndex.settle = .timeout) ∧
      (RegIndex.settle ≠ .timeout → (1 : Data) ≠ 0)) ∧
    ((RegIndex.timeout = .settle ∨ RegIndex.timeout = .intpulse ∨ RegIndex.timeout = .timeout) ∧
      (RegIndex.timeout ≠ .timeout → (0 : Data) ≠ 0)) := by decide

theorem witness_RdcfgAnswersTheRegister :
    RegIndex.settle ≠ .reserved7 ∧ RegIndex.intpulse ≠ .reserved7 ∧ RegIndex.timeout ≠ .reserved7 ∧
    RegIndex.laststat ≠ .reserved7 ∧ RegIndex.linecfg ≠ .reserved7 ∧ RegIndex.linelvl ≠ .reserved7 ∧
    RegIndex.xferinfo ≠ .reserved7 := by decide

theorem witness_IllegalValuesAreAnswered :
    (Instr.send 0xFFFFFF).wellFormed = false ∧ (Instr.wrcfg .xferinfo 5).wellFormed = false ∧
    (Instr.wrcfg .intpulse 0).wellFormed = false ∧ (Instr.rdcfg .reserved7).wellFormed = false ∧
    (Instr.cfgout .interrupt false).wellFormed = false := by decide

/-- A state for each command that needs lines. -/
theorem witness_MissingLinesAreFatal :
    ((Instr.cfgout .gpio0 true).wellFormed = true ∧ (wired [quiet]).linesMissing (.cfgout .gpio0 true)) ∧
    ((Instr.cfgout .ack true).wellFormed = true ∧ (fresh [quiet]).linesMissing (.cfgout .ack true)) ∧
    ((Instr.cfgin .interrupt).wellFormed = true ∧ (fresh [quiet]).linesMissing (.cfgin .interrupt)) ∧
    ((Instr.setlvl .ack true).wellFormed = true ∧ (wired [quiet]).linesMissing (.setlvl .ack true)) ∧
    ((Instr.armedge .gpio1 .rising).wellFormed = true ∧ (wired [quiet]).linesMissing (.armedge .gpio1 .rising)) ∧
    ((Instr.waitedge .gpio2 true).wellFormed = true ∧ (wired [quiet]).linesMissing (.waitedge .gpio2 true)) ∧
    ((Instr.send 5).wellFormed = true ∧ (fresh [quiet]).linesMissing (.send 5)) ∧
    (Instr.hshake.wellFormed = true ∧ (fresh [quiet]).linesMissing .hshake) ∧
    ((Instr.xmit 300).wellFormed = true ∧ (fresh [quiet]).linesMissing (.xmit 300)) :=
  ⟨⟨rfl, .inl rfl⟩, ⟨rfl, .inr rfl⟩, ⟨rfl, .inr (.inr (.inr (.inr rfl)))⟩, ⟨rfl, .inl rfl⟩,
    ⟨rfl, .inr (.inr rfl)⟩, ⟨rfl, .inr (.inl rfl)⟩, ⟨by decide, .data, .inl rfl, .inl rfl⟩, ⟨rfl, .inl rfl⟩,
    ⟨rfl, .inr (.inl rfl)⟩⟩

theorem witness_OutOfRangeSamplesAreSkipped :
    (0xFFFFFF : Data).toInt < 0 ∧ 255 < (256 : Data).toInt ∧ ¬ (linked 1 [quiet]).linesMissing (.xmit 256) := by
  refine ⟨by decide, by decide, ?_⟩
  rintro (⟨L, hL, h⟩ | h)
  · revert hL h; cases L <;> decide
  · revert h; decide

theorem witness_UnarmedWaitsAreAnswered :
    isRole .gpio0 = false ∧
    (({ wired [quiet] with lines := { (wired [quiet]).lines with gpio0 := inLine } } : State).line .gpio0).claimed =
      true ∧
    (({ wired [quiet] with lines := { (wired [quiet]).lines with gpio0 := inLine } } : State).line .gpio0).dir =
      .input ∧
    (({ wired [quiet] with lines := { (wired [quiet]).lines with gpio0 := inLine } } : State).line .gpio0).armed =
      false := by decide

/-- Every threshold of the quantizer from both sides (V-Q1). -/
theorem witness_QuantizerThresholds :
    quantize 0 = 0 ∧ quantize 9 = 0 ∧ quantize 10 = 1 ∧ quantize 19 = 1 ∧ quantize 20 = 2 ∧ quantize 29 = 2 ∧
    quantize 30 = 3 ∧ quantize 39 = 3 ∧ quantize 40 = 4 ∧ quantize 49 = 4 ∧ quantize 50 = 5 ∧ quantize 255 = 5 := by
  decide

theorem witness_QuantizerClosedForm :
    (49 : Nat) ≤ 255 ∧ (0 : Int) ≤ 49 ∧ (49 : Int) ≤ 50 ∧ (50 : Int) ≤ 255 ∧ (5 : Nat) ≤ 5 := by decide

theorem witness_SDataRaisesTheClock :
    (shiftingIn .sData 2 0 7 .send [quiet]).st = .sData ∧ (shiftingIn .sData 2 0 7 .send [quiet]).quietAt 0 :=
  ⟨rfl, quietAt_of rfl rfl⟩

/-- The last counted cycle and the cycle that leaves. -/
theorem witness_SClkHHoldsThenLowersTheClock :
    ((shiftingIn .sClkH 2 1 7 .send [quiet]).st = .sClkH ∧ (shiftingIn .sClkH 2 1 7 .send [quiet]).quietAt 0 ∧
      (shiftingIn .sClkH 2 1 7 .send [quiet]).cnt.toNat < (shiftingIn .sClkH 2 1 7 .send [quiet]).settle.toNat) ∧
    (shiftingIn .sClkH 2 2 7 .send [quiet]).settle.toNat ≤ (shiftingIn .sClkH 2 2 7 .send [quiet]).cnt.toNat :=
  ⟨⟨rfl, quietAt_of rfl rfl, by decide⟩, by decide⟩

/-- Counting, a next bit, and after the last bit. -/
theorem witness_SClkLHoldsThenNextBitOrLatch :
    ((shiftingIn .sClkL 2 1 1 .send [quiet]).st = .sClkL ∧ (shiftingIn .sClkL 2 1 1 .send [quiet]).quietAt 0 ∧
      (shiftingIn .sClkL 2 1 1 .send [quiet]).cnt.toNat < (shiftingIn .sClkL 2 1 1 .send [quiet]).settle.toNat) ∧
    ((shiftingIn .sClkL 2 2 1 .send [quiet]).settle.toNat ≤ (shiftingIn .sClkL 2 2 1 .send [quiet]).cnt.toNat ∧
      0 < (shiftingIn .sClkL 2 2 1 .send [quiet]).bitidx.toNat) ∧
    (shiftingIn .sClkL 2 2 0 .send [quiet]).settle.toNat ≤ (shiftingIn .sClkL 2 2 0 .send [quiet]).cnt.toNat ∧
      (shiftingIn .sClkL 2 2 0 .send [quiet]).bitidx.toNat = 0 :=
  ⟨⟨rfl, quietAt_of rfl rfl, by decide⟩, by decide, by decide⟩

/-- Counting, the end of a SEND and of the shift of an XMIT. -/
theorem witness_LHighHoldsThenCommits :
    ((shiftingIn .lHigh 2 1 0 .send [quiet]).st = .lHigh ∧ (shiftingIn .lHigh 2 1 0 .send [quiet]).quietAt 0 ∧
      (shiftingIn .lHigh 2 1 0 .send [quiet]).cnt.toNat < (shiftingIn .lHigh 2 1 0 .send [quiet]).settle.toNat) ∧
    ((shiftingIn .lHigh 2 2 0 .send [quiet]).settle.toNat ≤ (shiftingIn .lHigh 2 2 0 .send [quiet]).cnt.toNat ∧
      (shiftingIn .lHigh 2 2 0 .send [quiet]).op = .send) ∧
    (shiftingIn .lHigh 2 2 0 .xmit [quiet]).op ≠ .send :=
  ⟨⟨rfl, quietAt_of rfl rfl, by decide⟩, by decide, by decide⟩

theorem witness_IPreAssertsTheInterrupt :
    (shiftingIn .iPre 2 2 0 .xmit [quiet]).st = .iPre ∧ (shiftingIn .iPre 2 2 0 .xmit [quiet]).quietAt 0 :=
  ⟨rfl, quietAt_of rfl rfl⟩

/-- In I_ASSERT, with INTPULSE `P`. -/
def pulsing (P cnt : Data) (env : List Inputs) : State :=
  { linked 1 env with
    st := .iAssert, op := .hshake, cnt := cnt, intpulse := P
    lines := { (linked 1 env).lines with interrupt := outLine false } }

theorem witness_IAssertHoldsThenArmsAck :
    ((pulsing 2 1 [quiet]).st = .iAssert ∧ (pulsing 2 1 [quiet]).quietAt 0 ∧
      (pulsing 2 1 [quiet]).cnt.toNat < (pulsing 2 1 [quiet]).intpulse.toNat) ∧
    (pulsing 2 2 [quiet]).intpulse.toNat ≤ (pulsing 2 2 [quiet]).cnt.toNat :=
  ⟨⟨rfl, quietAt_of rfl rfl, by decide⟩, by decide⟩

/-- A GPIO wait with an edge remembered, and a handshake with an edge in this cycle. -/
def gpioSeen : State :=
  { gpioWait 0 true [quiet] with lines := { (wired []).lines with gpio0 := { armedLine with seen := true } } }

def ackEdge (op : Op) : State :=
  { ackWait op 0 true [quiet] with lines := { (linked 1 []).lines with ack := { armedLine with s2 := false } } }

/-- An edge remembered for a GPIO wait, an edge in this cycle for a handshake of XMIT and HSHAKE, a `cancel`, the last cycle of a bounded wait, and a cycle
before it. -/
theorem witness_WaitStepEndsOrGoesOn :
    ((gpioWait 0 true [quiet]).st.waiting = true ∧ (gpioWait 0 true [quiet]).quietAt 0 ∧
      ((gpioWait 0 true [quiet]).line (gpioWait 0 true [quiet]).wline).seen = false ∧
      ((gpioWait 0 true [quiet]).line (gpioWait 0 true [quiet]).wline).edge = false ∧
      (gpioWait 0 true [quiet]).inp.cancel = false ∧
      ¬((gpioWait 0 true [quiet]).wto = true ∧
        (gpioWait 0 true [quiet]).wcnt.toNat + 1 = (gpioWait 0 true [quiet]).timeout.toNat)) ∧
    (gpioWait 0 true [{ quiet with cancel := true }]).inp.cancel = true ∧
    ((gpioWait 2 true [quiet]).wto = true ∧
      (gpioWait 2 true [quiet]).wcnt.toNat + 1 = (gpioWait 2 true [quiet]).timeout.toNat) ∧
    (gpioSeen.quietAt 0 ∧ (gpioSeen.line gpioSeen.wline).seen = true ∧ gpioSeen.st = .wAwait) ∧
    ((ackEdge .xmit).quietAt 0 ∧ ((ackEdge .xmit).line (ackEdge .xmit).wline).edge = true ∧
      (ackEdge .xmit).st = .iAwait ∧ (ackEdge .xmit).op = .xmit) ∧
    (ackEdge .hshake).st = .iAwait ∧ (ackEdge .hshake).op ≠ .xmit :=
  ⟨⟨rfl, quietAt_of rfl rfl, rfl, by decide, rfl, by decide⟩, rfl, by decide, ⟨quietAt_of rfl rfl, rfl, rfl⟩,
    ⟨quietAt_of rfl rfl, by decide, rfl, rfl⟩, rfl, by decide⟩

theorem witness_InterruptPulseLength :
    (pulsing 2 1 [quiet, quiet]).st = .iAssert ∧ (pulsing 2 1 [quiet, quiet]).cnt = 1 ∧
    (pulsing 2 1 [quiet, quiet]).intpulse ≠ 0 ∧ ((pulsing 2 1 [quiet, quiet]).line .interrupt).lvl = false ∧
    (pulsing 2 1 [quiet, quiet]).quietFor (pulsing 2 1 [quiet, quiet]).intpulse.toNat :=
  ⟨rfl, rfl, by decide, rfl, quietFor_of_env (by simp [pulsing, linked, calm, quiet]) (by decide)⟩

/-- A handshake whose ack falls in its second wait cycle, the last but one of its bound. -/
def ackFalling : State :=
  { ackWait .xmit 1 true [quiet, quiet] with
    lines := { (ackWait .xmit 1 true [quiet, quiet]).lines with ack := { armedLine with s1 := false } } }

theorem witness_WaitEndsAtTheFirstEdge :
    ackFalling.st.waiting = true ∧ (ackFalling.line ackFalling.wline).seen = false ∧ ackFalling.quietFor (1 + 1) ∧
    ackFalling.uncancelledFor 1 ∧ (∀ j, j < 1 → ackFalling.edgeAt ackFalling.wline j = false) ∧
    ackFalling.edgeAt ackFalling.wline 1 = true ∧
    (ackFalling.wto = true → ackFalling.wcnt.toNat + 1 < ackFalling.timeout.toNat) :=
  ⟨rfl, rfl, quietFor_of_env (by simp [ackFalling, ackWait, linked, calm, quiet]) (by decide),
    uncancelledFor_of_env (by simp [ackFalling, ackWait, linked, quiet]) (by decide), by decide, by decide, by decide⟩

theorem witness_WaitTimesOut :
    (gpioWait 0 true [quiet, quiet, quiet]).st.waiting = true ∧
    ((gpioWait 0 true [quiet, quiet, quiet]).line .gpio0).seen = false ∧
    (gpioWait 0 true [quiet, quiet, quiet]).wline = .gpio0 ∧ (gpioWait 0 true [quiet, quiet, quiet]).wto = true ∧
    (gpioWait 0 true [quiet, quiet, quiet]).wcnt = 0 ∧ (gpioWait 0 true [quiet, quiet, quiet]).timeout = 3 ∧
    (gpioWait 0 true [quiet, quiet, quiet]).quietFor 3 ∧ (gpioWait 0 true [quiet, quiet, quiet]).uncancelledFor 3 ∧
    ∀ j, j < 3 → (gpioWait 0 true [quiet, quiet, quiet]).edgeAt .gpio0 j = false :=
  ⟨rfl, rfl, rfl, rfl, rfl, rfl, quietFor_of_env (by simp [gpioWait, wired, linked, calm, quiet]) (by decide),
    uncancelledFor_of_env (by simp [gpioWait, wired, linked, quiet]) (by decide), by decide⟩

theorem witness_UnboundedWaitHangs :
    (ackWait .hshake 0 false [quiet, quiet]).st.waiting = true ∧
    ((ackWait .hshake 0 false [quiet, quiet]).line .ack).seen = false ∧
    (ackWait .hshake 0 false [quiet, quiet]).wline = .ack ∧ (ackWait .hshake 0 false [quiet, quiet]).wto = false ∧
    (ackWait .hshake 0 false [quiet, quiet]).quietFor 2 ∧
    (ackWait .hshake 0 false [quiet, quiet]).uncancelledFor 2 ∧
    ∀ j, j < 2 → (ackWait .hshake 0 false [quiet, quiet]).edgeAt .ack j = false :=
  ⟨rfl, rfl, rfl, rfl, quietFor_of_env (by simp [ackWait, linked, calm, quiet]) (by decide),
    uncancelledFor_of_env (by simp [ackWait, linked, quiet]) (by decide), by decide⟩

theorem mem_offer_quiet {w : Word} {n : Nat} {i : Inputs} (h : i ∈ offer w :: List.replicate n quiet) : calm i := by
  rcases List.mem_cons.mp h with rfl | h
  · exact ⟨rfl, rfl⟩
  · rw [(List.mem_replicate.mp h).2]; exact ⟨rfl, rfl⟩

/-- `send 5` offered after `linkinit` with SETTLE 1, 26 quiet cycles. -/
theorem witness_SendWaveform :
    1 = (linked 1 (offer 0x60000005 :: List.replicate 25 quiet)).settle.toNat ∧ 0 < 1 ∧
    (linked 1 (offer 0x60000005 :: List.replicate 25 quiet)).st = .idle ∧
    (linked 1 (offer 0x60000005 :: List.replicate 25 quiet)).inp.cmdValid = true ∧
    decode (linked 1 (offer 0x60000005 :: List.replicate 25 quiet)).inp.cmd = .ok (.send 5) ∧ (5 : Data).toNat ≤ 5 ∧
    (linked 1 (offer 0x60000005 :: List.replicate 25 quiet)).linkClaimed = true ∧
    ((linked 1 (offer 0x60000005 :: List.replicate 25 quiet)).line .clock).lvl = false ∧
    ((linked 1 (offer 0x60000005 :: List.replicate 25 quiet)).line .latch).lvl = false ∧
    (linked 1 (offer 0x60000005 :: List.replicate 25 quiet)).quietFor (17 * 1 + 9) :=
  ⟨rfl, by decide, rfl, rfl, by decide, by decide, rfl, rfl, rfl,
    quietFor_of_env (fun _ h => mem_offer_quiet h) (by simp [linked])⟩

/-- The longest settle delay, which meets every minimum pulse width. -/
theorem settleLegal_max (env : List Inputs) : (linked 0xFFFFFF env).settleLegal := by
  have h := Config.tPeriphMinPulse.isLt
  show Config.tPeriphMinPulse.toNat ≤ 16777215
  omega

/-- `send 5` offered after `linkinit` with the longest SETTLE, `n` quiet cycles after it. -/
theorem sendRoundTrip_hypotheses (n : Nat) (hn : 17 * 16777215 + 9 ≤ n + 1) :
    let s := linked 0xFFFFFF (offer 0x60000005 :: List.replicate n quiet)
    s.settle ≠ 0 ∧ s.settleLegal ∧ s.st = .idle ∧ s.inp.cmdValid = true ∧ decode s.inp.cmd = .ok (.send 5) ∧
      (5 : Data).toNat ≤ 5 ∧ s.linkClaimed = true ∧ (s.line .clock).lvl = false ∧ (s.line .latch).lvl = false ∧
      s.quietFor (17 * s.settle.toNat + 9) :=
  ⟨show (0xFFFFFF : Data) ≠ 0 by decide, settleLegal_max _, rfl, rfl,
    show decode 0x60000005 = .ok (.send 5) by decide, by decide, rfl, rfl, rfl,
    quietFor_of_env (fun _ h => mem_offer_quiet h) (by
      show 17 * 16777215 + 9 ≤ (offer 0x60000005 :: List.replicate n quiet).length
      rw [List.length_cons, List.length_replicate]; exact hn)⟩

theorem witness_SendRoundTrip :
    ∃ (s : State) (v : Data), s.settle ≠ 0 ∧ s.settleLegal ∧ s.st = .idle ∧ s.inp.cmdValid = true ∧
      decode s.inp.cmd = .ok (.send v) ∧ v.toNat ≤ 5 ∧ s.linkClaimed = true ∧ (s.line .clock).lvl = false ∧
      (s.line .latch).lvl = false ∧ s.quietFor (17 * s.settle.toNat + 9) :=
  ⟨_, 5, sendRoundTrip_hypotheses (17 * 16777215 + 8) (Nat.le_refl _)⟩

/-- The inputs of an XMIT whose ack falls `n + 1` cycles after the acceptance cycle. -/
def ackAfter (w : Word) (n : Nat) : List Inputs := offer w :: (List.replicate n quiet ++ List.replicate 3 ackLow)

theorem ackAfter_length (w : Word) (n : Nat) : (ackAfter w n).length = n + 4 := by
  simp [ackAfter]

theorem mem_ackAfter {w : Word} {n : Nat} {i : Inputs} (h : i ∈ ackAfter w n) : calm i ∧ i.cancel = false := by
  rcases List.mem_cons.mp h with rfl | h
  · exact ⟨⟨rfl, rfl⟩, rfl⟩
  · rcases List.mem_append.mp h with h | h <;> rw [(List.mem_replicate.mp h).2] <;> exact ⟨⟨rfl, rfl⟩, rfl⟩

/-- After `linkinit` ack is an input, so its levels to come are those of the outside. -/
theorem syncAt_linked_ack (S : Data) (env : List Inputs) (j : Nat) :
    (linked S env).syncAt .ack (j + 3) = padBit ((linked S env).inpAt j).padExt .ack := rfl

theorem syncAt_ackAfter_high {S : Data} {w : Word} {n j : Nat} (hj : j ≤ n) :
    (linked S (ackAfter w n)).syncAt .ack (j + 3) = true := by
  have h : (ackAfter w n)[j]? = some (offer w) ∨ (ackAfter w n)[j]? = some quiet := by
    cases j with
    | zero => exact .inl rfl
    | succ j =>
      refine .inr ?_
      rw [ackAfter, List.getElem?_cons_succ, List.getElem?_append_left (by rw [List.length_replicate]; omega),
        List.getElem?_replicate, if_pos (by omega)]
  rw [syncAt_linked_ack]
  rcases h with h | h <;> simp only [State.inpAt, linked, h]
  · show padBit 0xFF .ack = true
    decide
  · decide

theorem syncAt_ackAfter_low {S : Data} {w : Word} {n : Nat} :
    (linked S (ackAfter w n)).syncAt .ack (n + 1 + 3) = false := by
  have h : (ackAfter w n)[n + 1]? = some ackLow := by
    rw [ackAfter, List.getElem?_cons_succ, List.getElem?_append_right (by rw [List.length_replicate])]
    simp
  rw [syncAt_linked_ack]
  simp only [State.inpAt, linked, h]
  rfl

/-- `xmit 255` offered after `linkinit` with the longest SETTLE, the ack seen in the second wait cycle. -/
theorem xmitByteCycle_hypotheses (w n : Nat) (hw : w = 17 * 16777215 + 1 + 10) (hn : n = w - 2) :
    let s := linked 0xFFFFFF (ackAfter 0x900000FF n)
    w = 17 * s.settle.toNat + s.intpulse.toNat + 10 ∧ s.settle ≠ 0 ∧ s.intpulse ≠ 0 ∧ s.settleLegal ∧ s.linkReady ∧
      s.st = .idle ∧ s.inp.cmdValid = true ∧ decode s.inp.cmd = .ok (.xmit 255) ∧ 0 ≤ (255 : Data).toInt ∧
      (255 : Data).toInt ≤ 255 ∧ s.quietFor (w + 1 + 1) ∧
      (∀ j, w ≤ j → j < w + 1 → (s.inpAt j).cancel = false) ∧
      (∀ j, w ≤ j → j < w + 1 → (s.syncAt .ack j && !s.syncAt .ack (j + 1)) = false) ∧
      (s.syncAt .ack (w + 1) && !s.syncAt .ack (w + 1 + 1)) = true ∧ (s.timeout = 0 ∨ 1 < s.timeout.toNat) := by
  have hlen := ackAfter_length 0x900000FF n
  have hq : (linked 0xFFFFFF (ackAfter 0x900000FF n)).quietFor (w + 1 + 1) :=
    quietFor_of_env (fun i h => (mem_ackAfter h).1) (by show w + 1 + 1 ≤ (ackAfter 0x900000FF n).length; omega)
  have hc : (linked 0xFFFFFF (ackAfter 0x900000FF n)).uncancelledFor (w + 1) :=
    uncancelledFor_of_env (fun i h => (mem_ackAfter h).2) (by show w + 1 ≤ (ackAfter 0x900000FF n).length; omega)
  have e1 : w + 1 = n + 3 := by omega
  have h1 : (linked 0xFFFFFF (ackAfter 0x900000FF n)).syncAt .ack (w + 1) = true := by
    rw [e1]; exact syncAt_ackAfter_high (Nat.le_refl _)
  have e2 : w + 1 + 1 = n + 1 + 3 := by omega
  have h2 : (linked 0xFFFFFF (ackAfter 0x900000FF n)).syncAt .ack (w + 1 + 1) = false := by
    rw [e2]; exact syncAt_ackAfter_low
  refine ⟨hw, show (0xFFFFFF : Data) ≠ 0 by decide, show (1 : Data) ≠ 0 by decide, settleLegal_max _,
    ⟨rfl, rfl, rfl, rfl⟩, rfl, rfl, ?_, by decide, by decide, hq,
    fun j _ hj => hc j hj, fun j hj hj' => ?_, by rw [h1, h2]; rfl, .inr (show 1 < (100 : Data).toNat by decide)⟩
  · show decode 0x900000FF = .ok (.xmit 255)
    decide
  · have e : j = w := by omega
    rw [e, h1, Bool.not_true, Bool.and_false]

theorem witness_XmitByteCycle :
    ∃ (s : State) (v : Data) (k w : Nat), w = 17 * s.settle.toNat + s.intpulse.toNat + 10 ∧ s.settle ≠ 0 ∧
      s.intpulse ≠ 0 ∧ s.settleLegal ∧ s.linkReady ∧ s.st = .idle ∧ s.inp.cmdValid = true ∧
      decode s.inp.cmd = .ok (.xmit v) ∧ 0 ≤ v.toInt ∧ v.toInt ≤ 255 ∧ s.quietFor (w + k + 1) ∧
      (∀ j, w ≤ j → j < w + k → (s.inpAt j).cancel = false) ∧
      (∀ j, w ≤ j → j < w + k → (s.syncAt .ack j && !s.syncAt .ack (j + 1)) = false) ∧
      (s.syncAt .ack (w + k) && !s.syncAt .ack (w + k + 1)) = true ∧ (s.timeout = 0 ∨ k < s.timeout.toNat) :=
  ⟨_, 255, 1, 17 * 16777215 + 1 + 10, xmitByteCycle_hypotheses _ _ rfl rfl⟩

/-- The ack edge ends an XMIT with OK. -/
theorem witness_XmitOkOnlyAfterAck :
    (ackEdge .xmit).Inv ∧ (ackEdge .xmit).inp.rst = false ∧ (ackEdge .xmit).st ≠ .idle ∧ (ackEdge .xmit).op = .xmit ∧
      ∃ t, step (ackEdge .xmit) = .next t ∧ t.rspValid = true ∧ t.rspStatus = .ok := by
  refine ⟨?_, rfl, by decide, rfl, _, rfl, by decide, by decide⟩
  constructor
  · intro L; constructor <;> cases L <;> decide
  all_goals decide

theorem witness_RoleLinesAreOwned :
    isRole .ack = true ∧ (∃ t, exec (.setlvl .gpio1 true) (wired [quiet]) = .next t ∧ t.st ≠ .fault) ∧
    (∀ f, Instr.setlvl .gpio1 true ≠ .cfgout .ack f) ∧ Instr.setlvl .gpio1 true ≠ .cfgin .ack ∧
    Instr.setlvl .gpio1 true ≠ .release .ack ∧ (∀ v, Instr.setlvl .gpio1 true ≠ .send v) ∧
    Instr.setlvl .gpio1 true ≠ .hshake ∧ ∀ v, Instr.setlvl .gpio1 true ≠ .xmit v :=
  ⟨rfl, ⟨_, rfl, by decide⟩, fun _ => nofun, nofun, nofun, fun _ => nofun, nofun, fun _ => nofun⟩

theorem witness_DirectionIsFixedWhileClaimed :
    ∃ t, step (wired [quiet]) = .next t ∧ ((wired [quiet]).line .gpio1).claimed = true ∧
      (t.line .gpio1).claimed = true := ⟨_, rfl, rfl, rfl⟩

/-- S_DATA raises the clock with the data line unchanged; S_CLKH does not. -/
theorem witness_ExternalRegisterShifts :
    (∃ t, step (shiftingIn .sData 0xFFFFFF 1 1 .send [quiet, quiet]) = .next t ∧
      (shiftingIn .sData 0xFFFFFF 1 1 .send [quiet, quiet]).padLevel .clock = false ∧ t.padLevel .clock = true ∧
      (shiftingIn .sData 0xFFFFFF 1 1 .send [quiet, quiet]).settleLegal ∧
      (shiftingIn .sData 0xFFFFFF 1 1 .send [quiet, quiet]).padLevel .data = t.padLevel .data) ∧
    ∃ t, step (linked 1 [quiet]) = .next t ∧
      ¬((linked 1 [quiet]).padLevel .clock = false ∧ t.padLevel .clock = true) :=
  ⟨⟨_, rfl, by decide, by decide, settleLegal_max [], by decide⟩, _, rfl, by decide⟩

/-- In L_HIGH, the latch HIGH, in its last cycle of the longest SETTLE. -/
def latching : State :=
  { shiftingIn .lHigh 0xFFFFFF 0xFFFFFF 0 .send [quiet, quiet] with
    lines := { (linked 1 []).lines with latch := outLine true } }

/-- The latch falls, the stages being those of its rise; it does not fall; it is LOW, and HIGH. -/
theorem witness_ExternalRegisterCommits :
    (∃ t, step latching = .next t ∧ latching.padLevel .latch = true ∧ t.padLevel .latch = false ∧
      latching.settleLegal ∧ ¬(latching.padLevel .clock = false ∧ t.padLevel .clock = true) ∧
      latching.ext.atRise = latching.ext.stage) ∧
    (∃ t, step (linked 1 [quiet]) = .next t ∧
      ¬((linked 1 [quiet]).padLevel .latch = true ∧ t.padLevel .latch = false)) ∧
    (linked 1 [quiet]).padLevel .latch = false ∧ (0 : Nat) < 8 :=
  ⟨⟨_, rfl, by decide, by decide, settleLegal_max [], by decide, rfl⟩, ⟨_, rfl, by decide⟩, by decide, by decide⟩

end Sys2Proof.Tests
end

section
/-! Every cycle has a transition (60_exceptions.md R134): the arms of `exec`, then the command, then the cycle. -/

namespace Sys2Proof.Machine

/-- The result is a next state, not a stop. -/
def Answers (r : Result) : Prop := ∃ t, r = .next t

theorem Answers.next (t : State) : Answers (.next t) := ⟨t, rfl⟩

/-- An error of a command is a next state too: a response, or the FAULT state (60_exceptions.md R128, R129). -/
theorem Answers.raise (c : Status) (s : State) : Answers (raise c s) := by
  cases hc : c.isFatal with
  | false => exact ⟨_, raise_nonfatal hc s⟩
  | true => exact ⟨_, raise_fatal hc s⟩

/-- A check that raises an error when it fails leaves only the rest of the command to look at. -/
theorem Answers.check {p : Prop} [Decidable p] {c : Status} {s : State} {r : Result} (h : Answers r) :
    Answers (if p then Machine.raise c s else r) := by
  split
  · exact .raise c s
  · exact h

/-- Every command answers: its checks one after the other, each raising an error, then its effect. -/
theorem exec_answers (i : Instr) (s : State) : Answers (exec i s) := by
  cases i with
  | nop => exact .next _
  | cfgout line level => exact .check (.check (.check (.next _)))
  | cfgin line => exact .check (.check (.next _))
  | setlvl line level => exact .check (.check (.next _))
  | armedge line edge => exact .check (.check (.next _))
  | waitedge line timeoutEn => exact .check (.check (.check (.next _)))
  | send level => exact .check (.check (.next _))
  | hshake => exact .check (.check (.next _))
  | quant sample => exact .check (.next _)
  | xmit sample => exact .check (.check (.check (.next _)))
  | wrcfg reg value => exact .check (.check (.next _))
  | rdcfg reg => exact .check (.next _)
  | release line => exact .next _

/-- An accepted word answers, a command or not (30_encoding.md R64, R66). -/
theorem runCommand_answers (w : Word) (s : State) : Answers (runCommand w s) := by
  unfold runCommand
  cases decode w with
  | ok i => exact exec_answers i s
  | error e => exact .raise .illegalCommand s

/-- One of the cases of 60_exceptions.md R134 applies in every cycle, and each has its transition. -/
theorem blockCycle_answers (s : State) : Answers (blockCycle s) := by
  cases hr : s.inp.rst with
  | true => exact ⟨_, blockCycle_reset hr⟩
  | false =>
    by_cases hs : s.st = .fault
    · exact ⟨_, blockCycle_hold hr hs⟩
    · cases hl : s.lineFault with
      | true => exact ⟨_, blockCycle_lineFault hr hs hl⟩
      | false =>
        cases ha : s.accepts with
        | true =>
          obtain ⟨hv, hi, -⟩ := (accepts_iff s).mp ha
          rw [blockCycle_accept hi hr hl hv]
          exact runCommand_answers s.inp.cmd s
        | false => exact ⟨_, blockCycle_fsm hr hs hl ha⟩

/-- Settles O10: the block's transition is a next state, and the external register's beside it never stops one. -/
theorem everyStepAnswers : Obligations.EveryStepAnswers := by
  intro s
  obtain ⟨t, ht⟩ := blockCycle_answers s
  exact ⟨_, step_of_blockCycle ht⟩

end Sys2Proof.Machine
end

section
/-! What a cycle can do, said once: the effect of an accepted command, of a busy or idle cycle without one, and of a cycle
by the priority of 60_exceptions.md R134. Statements about every step are case analyses of these. -/

namespace Sys2Proof.Machine

/-- Every next state this result can be has the property. -/
def Leads (P : State → Prop) (r : Result) : Prop := ∀ t, r = .next t → P t

theorem Leads.next {P : State → Prop} {t : State} (h : P t) : Leads P (.next t) := by
  rintro _ ⟨⟩
  exact h

/-- What CFGOUT and CFGIN make of a line (40_signal_line.md R73, R74). -/
def Line.claimAs (d : Dir) (v : Level) (l : Line) : Line := l.claim d v

/-- What ARMEDGE, and for ack the end of I_ASSERT, make of a line (40_signal_line.md R76, 42_handshake.md R98). -/
def Line.arm (e : Edge) (l : Line) : Line := { l with armed := true, esel := e, seen := false }

/-- What RELEASE makes of a line (40_signal_line.md R80). -/
def Line.free (l : Line) : Line :=
  { l with claimed := false, dir := .input, lvl := false, armed := false, esel := .falling, seen := false }

/-- What an accepted command leaves, with the checks it has passed. -/
inductive CommandEffect (s : State) : Instr → State → Prop
  /-- a fatal error (60_exceptions.md R130) -/
  | fatal {i : Instr} {c : Status} : c.isFatal = true → CommandEffect s i (s.enterFault c true)
  /-- a response and nothing else: NOP, QUANT, RDCFG, and every error that is not fatal -/
  | answer {i : Instr} (c : Status) (d : Data) : CommandEffect s i (s.tick.respond c d)
  | cfgout {L : LineId} {f : Level} : ¬(L = .interrupt ∧ f = false) → roleIsIn L = false →
      CommandEffect s (.cfgout L f) ((s.tick.updLine L (.claimAs .output f)).respond .ok 0)
  | cfgin {L : LineId} : roleIsOut L = false →
      CommandEffect s (.cfgin L) ((s.tick.updLine L (.claimAs .input false)).respond .ok 0)
  | setlvl {L : LineId} {f : Level} : isRole L = false → (s.line L).isOutput = true →
      CommandEffect s (.setlvl L f) ((s.tick.drive L f).respond .ok 0)
  | armedge {L : LineId} {e : Edge} : isRole L = false → (s.line L).isInput = true →
      CommandEffect s (.armedge L e) ((s.tick.updLine L (.arm e)).respond .ok 0)
  | waitedge {L : LineId} {f : Bool} : isRole L = false → (s.line L).armed = true →
      CommandEffect s (.waitedge L f)
        { s.tick with op := .wait, wline := L, wcnt := 0, wto := f && s.timeout != 0, st := .wAwait }
  | send {v : Data} : v.toNat ≤ 5 → s.linkClaimed = true →
      CommandEffect s (.send v) (s.tick.startShift .send (v.setWidth 8))
  | hshake : s.channelClaimed = true → CommandEffect s .hshake { s.tick.assertInterrupt with op := .hshake }
  | xmit {v : Data} : s.linkClaimed = true → s.channelClaimed = true →
      CommandEffect s (.xmit v) (s.tick.startShift .xmit ((quantize (sampleOf v)).setWidth 8))
  | wrcfg {r : RegIndex} {v : Data} : ((r = .settle ∨ r = .intpulse) → v ≠ 0) →
      CommandEffect s (.wrcfg r v) ((s.tick.writeReg r v).respond .ok 0)
  | release {L : LineId} : CommandEffect s (.release L) ((s.tick.updLine L .free).respond .ok 0)

theorem CommandEffect.raise (c : Status) (s : State) (i : Instr) : Leads (CommandEffect s i) (raise c s) := by
  cases hc : c.isFatal with
  | false => rw [raise_nonfatal hc]; exact .next (.answer c 0)
  | true => rw [raise_fatal hc]; exact .next (.fatal hc)

/-- A check that raises an error when it fails leaves the rest of the command, with the check passed. -/
theorem CommandEffect.check {s : State} {i : Instr} {p : Prop} [Decidable p] {c : Status} {r : Result}
    (h : ¬p → Leads (CommandEffect s i) r) : Leads (CommandEffect s i) (if p then Machine.raise c s else r) := by
  by_cases hp : p
  · rw [if_pos hp]; exact .raise c s i
  · rw [if_neg hp]; exact h hp

theorem exec_effect (i : Instr) (s : State) : Leads (CommandEffect s i) (exec i s) := by
  cases i with
  | nop => exact .next (.answer .ok 0)
  | cfgout L f =>
    exact .check fun hf => .check fun _ => .check fun hr => .next (.cfgout hf (Bool.eq_false_of_not_eq_true hr))
  | cfgin L => exact .check fun _ => .check fun hr => .next (.cfgin (Bool.eq_false_of_not_eq_true hr))
  | setlvl L f =>
    exact .check fun hr => .check fun ho => .next (.setlvl (Bool.eq_false_of_not_eq_true hr) (by simpa using ho))
  | armedge L e =>
    exact .check fun hr => .check fun hi => .next (.armedge (Bool.eq_false_of_not_eq_true hr) (by simpa using hi))
  | waitedge L f =>
    exact .check fun hr => .check fun _ => .check fun ha =>
      .next (.waitedge (Bool.eq_false_of_not_eq_true hr) (by simpa using ha))
  | send v => exact .check fun hv => .check fun hl => .next (.send (Nat.le_of_not_lt hv) (by simpa using hl))
  | hshake =>
    refine .check fun hi => .check fun ha => .next (.hshake ?_)
    simpa [State.channelClaimed] using And.intro hi ha
  | quant v => exact .check fun _ => .next (.answer .ok _)
  | xmit v =>
    refine .check fun hl => .check fun ha => .check fun _ => ?_
    obtain ⟨hlink, hint⟩ : s.linkClaimed = true ∧ (s.line .interrupt).isOutput = true := by simpa using hl
    exact .next (.xmit hlink (by simpa [State.channelClaimed, hint] using ha))
  | wrcfg r v =>
    refine .check fun _ => .check fun hv => .next (.wrcfg fun hr h0 => hv ⟨hr, ?_⟩)
    rw [h0]; rfl
  | rdcfg r => exact .check fun _ => .next (.answer .ok _)
  | release L => exact .next .release

/-- What a cycle leaves that is neither reset, fault nor the accepting of a command (60_exceptions.md R134, cases 5, 6). -/
inductive FsmEffect (s : State) : State → Prop
  | idle : s.st = .idle → FsmEffect s s.tick
  | raiseClock : s.st = .sData → FsmEffect s { s.tick.drive .clock true with cnt := 1, st := .sClkH }
  /-- S_CLKH, S_CLKL and L_HIGH hold for SETTLE cycles -/
  | holdLink : s.st = .sClkH ∨ s.st = .sClkL ∨ s.st = .lHigh → s.cnt < s.settle →
      FsmEffect s { s.tick with cnt := s.cnt + 1 }
  | lowerClock : s.st = .sClkH → FsmEffect s { s.tick.drive .clock false with cnt := 1, st := .sClkL }
  | nextBit : s.st = .sClkL → s.bitidx ≠ 0 →
      FsmEffect s { s.tick.drive .data (s.pat.getLsbD (s.bitidx.toNat - 1)) with bitidx := s.bitidx - 1, st := .sData }
  | raiseLatch : s.st = .sClkL → s.bitidx = 0 →
      FsmEffect s { s.tick.drive .latch true with cnt := 1, st := .lHigh }
  | sendDone : s.st = .lHigh → s.op = .send →
      FsmEffect s (State.respond { s.tick.drive .latch false with lastLevel := s.pat.setWidth 3 } .ok 0)
  | latchDone : s.st = .lHigh → s.op ≠ .send →
      FsmEffect s { s.tick.drive .latch false with lastLevel := s.pat.setWidth 3, st := .iPre }
  | startPulse : s.st = .iPre → FsmEffect s s.tick.assertInterrupt
  | holdPulse : s.st = .iAssert → s.cnt < s.intpulse → FsmEffect s { s.tick with cnt := s.cnt + 1 }
  | pulseDone : s.st = .iAssert →
      FsmEffect s { (s.tick.drive .interrupt true).updLine .ack (.arm .falling) with
        wline := .ack, wcnt := 0, wto := s.timeout != 0, st := .iAwait }
  | waitAnswered (c : Status) : s.st.waiting = true → FsmEffect s ((s.tick.disarm s.wline).respond c 0)
  | handshakeDone : s.st = .iAwait → FsmEffect s (s.tick.disarm s.wline).handshakeDone
  | waitCounts : s.st.waiting = true → s.wto = true → s.waitExpires = false →
      FsmEffect s { s.tick with wcnt := s.wcnt + 1 }
  | waitGoesOn : s.st.waiting = true → s.wto = false → FsmEffect s s.tick

theorem stepWait_effect {s : State} (hw : s.st.waiting = true) : FsmEffect s (stepWait s) := by
  obtain ⟨-, -, e⟩ | ⟨-, hs, e⟩ | ⟨-, -, e⟩ | ⟨-, -, -, -, e⟩ | ⟨-, -, -, -, e⟩ | ⟨-, -, hx, ht, e⟩ | ⟨-, -, -, ht, e⟩ :=
    stepWait_cases s <;> rw [e]
  · exact .waitAnswered .ok hw
  · refine .handshakeDone ?_
    cases h : s.st <;> simp_all [FsmState.waiting]
  · exact .waitAnswered .cancelled hw
  · exact .waitAnswered .timeout hw
  · exact .waitAnswered .peripheralUnresponsive hw
  · exact .waitCounts hw ht hx
  · exact .waitGoesOn hw ht

theorem fsmStep_effect {s : State} (hf : s.st ≠ .fault) : FsmEffect s (fsmStep s) := by
  unfold fsmStep
  cases hs : s.st with
  | idle => exact .idle hs
  | sData => exact .raiseClock hs
  | sClkH =>
    dsimp only [stepSClkH]
    split
    · next hc => exact .holdLink (.inl hs) hc
    · exact .lowerClock hs
  | sClkL =>
    dsimp only [stepSClkL]
    split
    · next hc => exact .holdLink (.inr (.inl hs)) hc
    · split
      · next hb => exact .nextBit hs (by bv_omega)
      · next hb => exact .raiseLatch hs (by bv_omega)
  | lHigh =>
    dsimp only [stepLHigh]
    split
    · next hc => exact .holdLink (.inr (.inr hs)) hc
    · split
      · next ho => exact .sendDone hs ho
      · next ho => exact .latchDone hs ho
  | iPre => exact .startPulse hs
  | iAssert =>
    dsimp only [stepIAssert]
    split
    · next hc => exact .holdPulse hs hc
    · exact .pulseDone hs
  | iAwait => exact stepWait_effect (by rw [hs]; rfl)
  | wAwait => exact stepWait_effect (by rw [hs]; rfl)
  | fault => exact absurd hs hf

/-- What the block's transition leaves, by the first case of 60_exceptions.md R134 that applies. -/
inductive BlockEffect (s : State) : State → Prop
  | reset : s.inp.rst = true → BlockEffect s s.resetCycle
  | hold : s.inp.rst = false → s.st = .fault → BlockEffect s s.tickBase
  | lineFault : s.inp.rst = false → s.st ≠ .fault →
      BlockEffect s (s.enterFault .lineFault (s.accepts || s.st != .idle))
  | illegalWord : s.accepts = true → BlockEffect s (s.tick.respond .illegalCommand 0)
  | command {i : Instr} {t : State} : s.accepts = true → CommandEffect s i t → BlockEffect s t
  | fsm {t : State} : s.inp.rst = false → s.st ≠ .fault → s.accepts = false → FsmEffect s t → BlockEffect s t

theorem runCommand_effect {s : State} (ha : s.accepts = true) (w : Word) : Leads (BlockEffect s) (runCommand w s) := by
  unfold runCommand
  cases decode w with
  | ok i => exact fun t ht => .command ha (exec_effect i s t ht)
  | error e => rw [raise_nonfatal rfl]; exact .next (.illegalWord ha)

theorem blockCycle_effect (s : State) : Leads (BlockEffect s) (blockCycle s) := by
  cases hr : s.inp.rst with
  | true => rw [blockCycle_reset hr]; exact .next (.reset hr)
  | false =>
    by_cases hs : s.st = .fault
    · rw [blockCycle_hold hr hs]; exact .next (.hold hr hs)
    · cases hl : s.lineFault with
      | true => rw [blockCycle_lineFault hr hs hl]; exact .next (.lineFault hr hs)
      | false =>
        cases ha : s.accepts with
        | true =>
          obtain ⟨hv, hi, -⟩ := (accepts_iff s).mp ha
          rw [blockCycle_accept hi hr hl hv]
          exact runCommand_effect ha s.inp.cmd
        | false => rw [blockCycle_fsm hr hs hl ha]; exact .next (.fsm hr hs ha (fsmStep_effect hs))

/-- A step has the block's effect, and changes nothing more but the external register. -/
theorem step_effect {s t : State} (h : step s = .next t) : ∃ u e, BlockEffect s u ∧ t = { u with ext := e } := by
  obtain ⟨u, hu, rfl⟩ := (step_eq_next_iff s t).mp h
  exact ⟨u, _, blockCycle_effect s u hu, rfl⟩

end Sys2Proof.Machine
end

section
/-! Lines over one cycle: the synchronisers sample in every effect (10_state.md R22), and which lines an effect keeps
(R21, R24). -/

namespace Sys2Proof.Machine

/-- A line that holds what the always-running updates make of it is kept. -/
theorem lineKept_of_line_eq {s t : State} {L : LineId} (h : t.line L = s.tick.line L) : s.lineKept t L := by
  rw [State.lineKept, State.lineSampled, h]
  exact tick_lineKept s L

/-- What is written over another line does not touch this one. -/
theorem lineKept_updLine {s : State} {L M : LineId} (f : Line → Line) (h : L ≠ M) :
    s.lineKept (s.tick.updLine M f) L :=
  lineKept_of_line_eq (by rw [State.updLine_line, if_neg h])

theorem lineKept_drive {s : State} {L M : LineId} (v : Level) (h : L ≠ M) : s.lineKept (s.tick.drive M v) L :=
  lineKept_updLine _ h

theorem lineSampled_of_kept {s t : State} {L : LineId} (h : s.lineKept t L) : s.lineSampled t L := by
  obtain ⟨-, -, -, -, -, -, hs⟩ := h
  exact hs

theorem tick_lineSampled (s : State) (L : LineId) : s.lineSampled s.tick L := lineSampled_of_kept (tick_lineKept s L)

/-- A write of a line's other fields leaves its synchroniser as it has sampled. -/
theorem lineSampled_updLine {s t : State} {f : Line → Line} (M : LineId) {L : LineId} (h : s.lineSampled t L)
    (hf : ∀ l, (f l).s1 = l.s1 ∧ (f l).s2 = l.s2 ∧ (f l).ref = l.ref) :
    s.lineSampled (t.updLine M f) L := by
  by_cases hL : L = M
  · subst hL
    simpa [State.lineSampled, hf] using h
  · simpa [State.lineSampled, hL] using h

theorem lineSampled_drive {s t : State} (M : LineId) (v : Level) {L : LineId} (h : s.lineSampled t L) :
    s.lineSampled (t.drive M v) L := lineSampled_updLine M h fun _ => ⟨rfl, rfl, rfl⟩

theorem lineSampled_disarm {s t : State} (M : LineId) {L : LineId} (h : s.lineSampled t L) :
    s.lineSampled (t.disarm M) L := lineSampled_updLine M h fun _ => ⟨rfl, rfl, rfl⟩

theorem enterFault_lineSampled (s : State) (c : Status) (a : Bool) (L : LineId) :
    s.lineSampled (s.enterFault c a) L := by
  obtain ⟨-, -, -, hl, -⟩ := enterFault_faultEntered s c a
  obtain ⟨-, -, -, -, -, -, hs⟩ := hl L
  exact hs

theorem CommandEffect.lineSampled {s t : State} {i : Instr} (h : CommandEffect s i t) (L : LineId) :
    s.lineSampled t L := by
  have ht := tick_lineSampled s L
  cases h with
  | fatal _ => exact enterFault_lineSampled ..
  | answer c d => exact ht
  | cfgout _ _ => exact lineSampled_updLine _ ht fun _ => ⟨rfl, rfl, rfl⟩
  | cfgin _ => exact lineSampled_updLine _ ht fun _ => ⟨rfl, rfl, rfl⟩
  | setlvl _ _ => exact lineSampled_drive _ _ ht
  | armedge _ _ => exact lineSampled_updLine _ ht fun _ => ⟨rfl, rfl, rfl⟩
  | waitedge _ _ => exact ht
  | send _ _ => exact lineSampled_drive _ _ ht
  | hshake _ => exact lineSampled_drive _ _ ht
  | xmit _ _ => exact lineSampled_drive _ _ ht
  | wrcfg _ => simp [State.lineSampled]
  | release => exact lineSampled_updLine _ ht fun _ => ⟨rfl, rfl, rfl⟩

theorem FsmEffect.lineSampled {s t : State} (h : FsmEffect s t) (L : LineId) : s.lineSampled t L := by
  have ht := tick_lineSampled s L
  cases h with
  | idle _ => exact ht
  | raiseClock _ => exact lineSampled_drive _ _ ht
  | holdLink _ _ => exact ht
  | lowerClock _ => exact lineSampled_drive _ _ ht
  | nextBit _ _ => exact lineSampled_drive _ _ ht
  | raiseLatch _ _ => exact lineSampled_drive _ _ ht
  | sendDone _ _ => exact lineSampled_drive _ _ ht
  | latchDone _ _ => exact lineSampled_drive _ _ ht
  | startPulse _ => exact lineSampled_drive _ _ ht
  | holdPulse _ _ => exact ht
  | pulseDone _ => exact lineSampled_updLine _ (lineSampled_drive _ _ ht) fun _ => ⟨rfl, rfl, rfl⟩
  | waitAnswered c _ => exact lineSampled_disarm _ ht
  | handshakeDone _ => exact lineSampled_disarm _ ht
  | waitCounts _ _ _ => exact ht
  | waitGoesOn _ _ => exact ht

theorem BlockEffect.lineSampled {s t : State} (h : BlockEffect s t) (L : LineId) : s.lineSampled t L := by
  cases h with
  | reset _ => simp [State.lineSampled]
  | hold _ _ => simp [State.lineSampled]
  | lineFault _ _ => exact enterFault_lineSampled ..
  | illegalWord _ => exact tick_lineSampled s L
  | command _ hc => exact hc.lineSampled L
  | fsm _ _ _ hf => exact hf.lineSampled L

theorem step_lineSampled {s t : State} (h : step s = .next t) (L : LineId) : s.lineSampled t L := by
  obtain ⟨u, e, hu, rfl⟩ := step_effect h
  exact hu.lineSampled L

/-- Settles O14: every transition samples, so two and three of them pass a pad's level on to `s2` and `ref`. -/
theorem synchronisersAlwaysSample : Obligations.SynchronisersAlwaysSample := by
  refine ⟨fun s t h L => step_lineSampled h L, fun s t u v hst htu huv L => ?_⟩
  obtain ⟨-, -, href⟩ := step_lineSampled huv L
  obtain ⟨-, hs2, -⟩ := step_lineSampled htu L
  obtain ⟨hs1, -, -⟩ := step_lineSampled hst L
  have hpad : (u.line L).s2 = s.padLevel L := hs2.trans hs1
  refine ⟨href, fun ho => ?_, fun ho => ?_⟩
  · rw [hpad, State.padLevel, State.padOe, if_pos ((Line.isOutput_iff _).mpr ho)]
    rfl
  · rw [hpad, State.padLevel, State.padOe, if_neg (mt (Line.isOutput_iff _).mp ho)]

/-- The claim, the direction and the detector of line `L` are as before, but for the edges it latches: what holds of a
kept line and of a driven one (10_state.md R24). -/
def State.detectorKept (s t : State) (L : LineId) : Prop :=
  (t.line L).seen = ((s.line L).seen || ((s.line L).armed && (s.line L).edge)) ∧
  (t.line L).armed = (s.line L).armed ∧ (t.line L).esel = (s.line L).esel ∧
  (t.line L).claimed = (s.line L).claimed ∧ (t.line L).dir = (s.line L).dir

theorem tick_detectorKept (s : State) (L : LineId) : s.detectorKept s.tick L := by
  simp [State.detectorKept]

theorem detectorKept_drive {s t : State} (M : LineId) (v : Level) {L : LineId} (h : s.detectorKept t L) :
    s.detectorKept (t.drive M v) L := by
  by_cases hL : L = M
  · subst hL
    simpa [State.detectorKept] using h
  · simpa [State.detectorKept, hL] using h

theorem detectorKept_updLine {s t : State} {L M : LineId} (f : Line → Line) (hL : L ≠ M) (h : s.detectorKept t L) :
    s.detectorKept (t.updLine M f) L := by
  simpa [State.detectorKept, hL] using h

theorem detectorKept_disarm {s t : State} {L M : LineId} (hL : L ≠ M) (h : s.detectorKept t L) :
    s.detectorKept (t.disarm M) L := detectorKept_updLine _ hL h

/-- A wait writes the line it watches and the end of I_ASSERT writes ack; every other detector runs on. -/
theorem FsmEffect.detectorKept {s t : State} (h : FsmEffect s t) {L : LineId}
    (hw : ¬(s.st.waiting = true ∧ s.wline = L)) (ha : ¬(s.st = .iAssert ∧ L = .ack)) : s.detectorKept t L := by
  have ht := tick_detectorKept s L
  cases h with
  | idle _ => exact ht
  | raiseClock _ => exact detectorKept_drive _ _ ht
  | holdLink _ _ => exact ht
  | lowerClock _ => exact detectorKept_drive _ _ ht
  | nextBit _ _ => exact detectorKept_drive _ _ ht
  | raiseLatch _ _ => exact detectorKept_drive _ _ ht
  | sendDone _ _ => exact detectorKept_drive _ _ ht
  | latchDone _ _ => exact detectorKept_drive _ _ ht
  | startPulse _ => exact detectorKept_drive _ _ ht
  | holdPulse _ _ => exact ht
  | pulseDone hs => exact detectorKept_updLine _ (fun hL => ha ⟨hs, hL⟩) (detectorKept_drive _ _ ht)
  | waitAnswered c hs => exact detectorKept_disarm (fun hL => hw ⟨hs, hL.symm⟩) ht
  | handshakeDone hs => exact detectorKept_disarm (fun hL => hw ⟨by rw [hs]; rfl, hL.symm⟩) ht
  | waitCounts _ _ _ => exact ht
  | waitGoesOn _ _ => exact ht

/-- Settles O15: a quiet cycle that accepts nothing is the FSM's, whose effects run every other detector. -/
theorem edgesAreLatched : Obligations.EdgesAreLatched := by
  intro s t L hq hna hf hw ha h
  obtain ⟨hr, hl⟩ := quietAt_zero_lineFault hq
  obtain ⟨u, hu, rfl⟩ := (step_eq_next_iff s t).mp h
  rw [blockCycle_fsm hr hf hl hna] at hu
  cases hu
  exact (fsmStep_effect hf).detectorKept hw ha

/-- Settles O56: each command but those named writes no line, or one that is not a role line. -/
theorem roleLinesAreOwned : Obligations.RoleLinesAreOwned := by
  intro i s t L hL h hf hcfgout hcfgin hrelease hsend hhshake hxmit
  have hne : ∀ {M}, isRole M = false → L ≠ M := fun hM e => by rw [e, hM] at hL; cases hL
  cases exec_effect i s t h with
  | fatal _ => exact absurd (State.enterFault_st ..) hf
  | answer c d => exact tick_lineKept s L
  | cfgout _ _ => exact lineKept_updLine _ fun e => hcfgout _ (by rw [e])
  | cfgin _ => exact lineKept_updLine _ fun e => hcfgin (by rw [e])
  | setlvl hr _ => exact lineKept_drive _ (hne hr)
  | armedge hr _ => exact lineKept_updLine _ (hne hr)
  | waitedge _ _ => exact tick_lineKept s L
  | send _ _ => exact absurd rfl (hsend _)
  | hshake _ => exact absurd rfl hhshake
  | xmit _ _ => exact absurd rfl (hxmit _)
  | wrcfg _ => exact lineKept_of_line_eq (State.writeReg_line ..)
  | release => exact lineKept_updLine _ fun e => hrelease (by rw [e])

end Sys2Proof.Machine
end

section
/-! The command port, the response registers and the output ports (10_state.md R16 to R18, R27, R37, R38). -/

namespace Sys2Proof.Machine

/-- Settles O11: case 4 of 60_exceptions.md R134 applies, and the accepted word runs as the command it decodes to. -/
theorem stepRunsTheAcceptedCommand : Obligations.StepRunsTheAcceptedCommand := by
  intro s t i hs hq hv hd h
  obtain ⟨hr, hl⟩ := quietAt_zero_lineFault hq
  apply step_of_blockCycle
  rw [blockCycle_accept hs hr hl hv, runCommand, hd]
  exact h

/-- Settles O60: the ports are these functions of the state by definition, and each code is read off its table. -/
theorem portsShowTheCodes : Obligations.PortsShowTheCodes := by
  intro s
  refine ⟨fun L => ⟨Line.isOutput_iff _, rfl⟩, by simp [State.busy], ?_, ?_, ?_⟩
  · rw [State.statePort]; cases s.st <;> rfl
  · rw [State.rspStatusPort]; cases s.rspStatus <;> rfl
  · rw [State.faultCodePort]; cases s.faultCode <;> rfl

/-- What a cycle without reset says of responses, `wasActive` telling that it accepted a command or was busy: a response
exactly where that leaves the block idle or in FAULT, and without one the registers are kept (10_state.md R37, R38). -/
structure ResponseRule (s t : State) (wasActive : Prop) : Prop where
  valid : t.rspValid = true ↔ wasActive ∧ (t.st = .idle ∨ t.st = .fault)
  last : t.rspValid = true → t.lastStatus = t.rspStatus
  kept : t.rspValid = false → t.rspStatus = s.rspStatus ∧ t.rspData = s.rspData ∧ t.lastStatus = s.lastStatus

/-- The command in progress is answered, and the block is idle. -/
theorem ResponseRule.answered {s t : State} {c : Status} {d : Data} {p : Prop} (hp : p) (h : t.answered c d) :
    ResponseRule s t p := by
  obtain ⟨hv, hs, -, hl, hi⟩ := h
  exact ⟨by simp [hv, hp, hi], fun _ => hl.trans hs.symm, by simp [hv]⟩

/-- The cycle completes nothing. -/
theorem ResponseRule.silent {s t : State} {p : Prop} (hp : ¬(p ∧ (t.st = .idle ∨ t.st = .fault))) (h : s.silent t) :
    ResponseRule s t p := by
  obtain ⟨hv, hs, hd, hl⟩ := h
  exact ⟨by simp [hv, hp], by simp [hv], fun _ => ⟨hs, hd, hl⟩⟩

theorem ResponseRule.enterFault (s : State) (c : Status) {a : Bool} {p : Prop} (hp : a = true ↔ p) :
    ResponseRule s (s.enterFault c a) p := by
  refine ⟨by simp [hp], fun ha => ?_, fun ha => ?_⟩ <;> rw [State.enterFault_rspValid] at ha <;> simp [ha]

theorem CommandEffect.responseRule {s t : State} {i : Instr} (h : CommandEffect s i t) : ResponseRule s t True := by
  cases h with
  | fatal _ => exact .enterFault _ _ (by simp)
  | answer c d => exact .answered trivial ⟨rfl, rfl, rfl, rfl, rfl⟩
  | cfgout _ _ => exact .answered trivial ⟨rfl, rfl, rfl, rfl, rfl⟩
  | cfgin _ => exact .answered trivial ⟨rfl, rfl, rfl, rfl, rfl⟩
  | setlvl _ _ => exact .answered trivial ⟨rfl, rfl, rfl, rfl, rfl⟩
  | armedge _ _ => exact .answered trivial ⟨rfl, rfl, rfl, rfl, rfl⟩
  | waitedge _ _ => exact .silent (by simp) ⟨rfl, rfl, rfl, rfl⟩
  | send _ _ => exact .silent (by simp) ⟨rfl, rfl, rfl, rfl⟩
  | hshake _ => exact .silent (by simp) ⟨rfl, rfl, rfl, rfl⟩
  | xmit _ _ => exact .silent (by simp) ⟨rfl, rfl, rfl, rfl⟩
  | wrcfg _ => exact .answered trivial ⟨rfl, rfl, rfl, rfl, rfl⟩
  | release => exact .answered trivial ⟨rfl, rfl, rfl, rfl, rfl⟩

theorem busy_of_waiting {s : State} (h : s.st.waiting = true) : s.busy = true := by
  cases hs : s.st <;> simp_all [State.busy, FsmState.waiting]

theorem FsmEffect.responseRule {s t : State} (h : FsmEffect s t) : ResponseRule s t (s.busy = true) := by
  cases h with
  | idle hs => exact .silent (by simp [State.busy, hs]) ⟨rfl, rfl, rfl, rfl⟩
  | raiseClock _ => exact .silent (by simp) ⟨rfl, rfl, rfl, rfl⟩
  | holdLink hs _ => exact .silent (by rcases hs with hs | hs | hs <;> simp [hs]) ⟨rfl, rfl, rfl, rfl⟩
  | lowerClock _ => exact .silent (by simp) ⟨rfl, rfl, rfl, rfl⟩
  | nextBit _ _ => exact .silent (by simp) ⟨rfl, rfl, rfl, rfl⟩
  | raiseLatch _ _ => exact .silent (by simp) ⟨rfl, rfl, rfl, rfl⟩
  | sendDone hs _ => exact .answered (by simp [State.busy, hs]) ⟨rfl, rfl, rfl, rfl, rfl⟩
  | latchDone _ _ => exact .silent (by simp) ⟨rfl, rfl, rfl, rfl⟩
  | startPulse _ => exact .silent (by simp) ⟨rfl, rfl, rfl, rfl⟩
  | holdPulse hs _ => exact .silent (by simp [hs]) ⟨rfl, rfl, rfl, rfl⟩
  | pulseDone _ => exact .silent (by simp) ⟨rfl, rfl, rfl, rfl⟩
  | waitAnswered c hw => exact .answered (busy_of_waiting hw) ⟨rfl, rfl, rfl, rfl, rfl⟩
  | handshakeDone hs => exact .answered (by simp [State.busy, hs]) ⟨rfl, rfl, rfl, rfl, rfl⟩
  | waitCounts hw _ _ => exact .silent (by have := busy_of_waiting hw; simp_all [State.busy]) ⟨rfl, rfl, rfl, rfl⟩
  | waitGoesOn hw _ => exact .silent (by have := busy_of_waiting hw; simp_all [State.busy]) ⟨rfl, rfl, rfl, rfl⟩

theorem BlockEffect.responseRule {s t : State} (h : BlockEffect s t) (hr : s.inp.rst = false) :
    ResponseRule s t (s.accepts = true ∨ s.busy = true) := by
  cases h with
  | reset hr' => rw [hr] at hr'; cases hr'
  | hold _ hs => exact .silent (by simp [State.accepts, State.cmdReady, State.busy, hs]) ⟨rfl, rfl, rfl, rfl⟩
  | lineFault _ hs => exact .enterFault _ _ (by simp [State.busy, hs])
  | illegalWord ha => exact .answered (.inl ha) ⟨rfl, rfl, rfl, rfl, rfl⟩
  | command ha hc => simpa only [ha, true_or] using hc.responseRule
  | fsm _ _ ha hf => simpa only [ha, Bool.false_eq_true, false_or] using hf.responseRule

theorem step_responseRule {s t : State} (h : step s = .next t) (hr : s.inp.rst = false) :
    ResponseRule s t (s.accepts = true ∨ s.busy = true) := by
  obtain ⟨u, e, hu, rfl⟩ := step_effect h
  obtain ⟨hv, hl, hk⟩ := hu.responseRule hr
  exact ⟨hv, hl, hk⟩

theorem step_reset_rspValid {s t : State} (h : step s = .next t) (hr : s.inp.rst = true) : t.rspValid = false := by
  rw [step_of_blockCycle (blockCycle_reset hr)] at h
  cases h
  rfl

theorem step_rspValid_iff {s t : State} (h : step s = .next t) :
    t.rspValid = true ↔
      s.inp.rst = false ∧ (s.accepts = true ∨ s.busy = true) ∧ (t.st = .idle ∨ t.st = .fault) := by
  cases hr : s.inp.rst with
  | true => simp [step_reset_rspValid h hr]
  | false => rw [(step_responseRule h hr).valid]; simp

/-- A cycle of a block at rest that accepts nothing completes nothing. -/
theorem rspValid_eq_false_of_rest {t u : State} (h : step t = .next u) (ha : t.accepts = false)
    (hs : t.st = .idle ∨ t.st = .fault) : u.rspValid = false := by
  have hb : t.busy = false := by rcases hs with hs | hs <;> simp [State.busy, hs]
  rw [Bool.eq_false_iff, ne_eq, step_rspValid_iff h, ha, hb]
  simp

/-- Settles O16: the rule holds of the effects of a cycle, and a response leaves the block at rest. -/
theorem responsesLastOneCycle : Obligations.ResponsesLastOneCycle := by
  refine ⟨fun s t h => ⟨step_rspValid_iff h, fun hv => ?_, fun hv hr => (step_responseRule h hr).kept hv⟩, ?_⟩
  · obtain ⟨hr, -, -⟩ := (step_rspValid_iff h).mp hv
    exact (step_responseRule h hr).last hv
  · intro s t u hst hv ha htu
    obtain ⟨-, -, hrest⟩ := (step_rspValid_iff hst).mp hv
    exact rspValid_eq_false_of_rest htu ha hrest

end Sys2Proof.Machine
end

section
/-! What a cycle reads of its inputs: the same state with other inputs in this cycle, and the ports each operation looks at
(10_state.md R18, 70_reset_and_hazards.md R158). -/

namespace Sys2Proof.Machine

/-- The same state with other inputs in this cycle. -/
def State.withInputs (s : State) (i : Inputs) : State := { s with env := i :: s.env.tail }

theorem inp_of_env {s : State} {i : Inputs} {rest : List Inputs} (h : s.env = i :: rest) : s.inp = i := by
  simp [State.inp, State.inpAt, h]

theorem withInputs_of_env {s : State} {i j : Inputs} {rest : List Inputs} (h : s.env = i :: rest) :
    { s with env := j :: rest } = s.withInputs j := by
  simp [State.withInputs, h]

@[simp] theorem withInputs_inp (s : State) (i : Inputs) : (s.withInputs i).inp = i := rfl

@[simp] theorem withInputs_st (s : State) (i : Inputs) : (s.withInputs i).st = s.st := rfl

@[simp] theorem withInputs_line (s : State) (i : Inputs) (L : LineId) : (s.withInputs i).line L = s.line L := rfl

theorem withInputs_padLevel {s : State} {i : Inputs} (h : i.padExt = s.inp.padExt) (L : LineId) :
    (s.withInputs i).padLevel L = s.padLevel L := by
  rw [State.padLevel, withInputs_inp, h]
  rfl

theorem withInputs_tick {s : State} {i : Inputs} (h : i.padExt = s.inp.padExt) : (s.withInputs i).tick = s.tick := by
  simp only [State.tick, withInputs_padLevel h]
  rfl

theorem withInputs_tickBase {s : State} {i : Inputs} (h : i.padExt = s.inp.padExt) :
    (s.withInputs i).tickBase = s.tickBase := by
  simp only [State.tickBase, withInputs_padLevel h]
  rfl

theorem withInputs_resetCycle {s : State} {i : Inputs} (h : i.padExt = s.inp.padExt) :
    (s.withInputs i).resetCycle = s.resetCycle := by
  simp only [State.resetCycle, withInputs_tickBase h]
  rfl

theorem withInputs_enterFault {s : State} {i : Inputs} (h : i.padExt = s.inp.padExt) (c : Status) (a : Bool) :
    (s.withInputs i).enterFault c a = s.enterFault c a := by
  simp only [State.enterFault, withInputs_tickBase h]

theorem withInputs_lineFault {s : State} {i : Inputs} (h : i.padFault = s.inp.padFault) :
    (s.withInputs i).lineFault = s.lineFault := by
  simp only [State.lineFault, withInputs_line, withInputs_inp, h]

theorem withInputs_stepWait {s : State} {i : Inputs} (h : i.padExt = s.inp.padExt) (hc : i.cancel = s.inp.cancel) :
    stepWait (s.withInputs i) = stepWait s := by
  simp only [stepWait, withInputs_tick h, withInputs_inp, hc]
  rfl

theorem withInputs_fsmStep {s : State} {i : Inputs} (h : i.padExt = s.inp.padExt)
    (hc : s.st.waiting = true → i.cancel = s.inp.cancel) : fsmStep (s.withInputs i) = fsmStep s := by
  have ht := withInputs_tick h
  unfold fsmStep
  rw [withInputs_st]
  cases hs : s.st with
  | idle => exact ht
  | sData => simp only [stepSData, ht]
  | sClkH => simp only [stepSClkH, ht]; rfl
  | sClkL => simp only [stepSClkL, ht]; rfl
  | lHigh => simp only [stepLHigh, ht]; rfl
  | iPre => simp only [stepIPre, ht]
  | iAssert => simp only [stepIAssert, ht]; rfl
  | iAwait => exact withInputs_stepWait h (hc (by rw [hs]; rfl))
  | wAwait => exact withInputs_stepWait h (hc (by rw [hs]; rfl))
  | fault => exact withInputs_tickBase h

/-- A cycle in which no command is accepted under either inputs reads `rst`, the pads and, in a wait, `cancel`. -/
theorem withInputs_blockCycle {s : State} {i : Inputs} (hr : i.rst = s.inp.rst) (hp : i.padExt = s.inp.padExt)
    (hf : i.padFault = s.inp.padFault) (hc : i.cancel = s.inp.cancel) (ha : s.accepts = false)
    (ha' : (s.withInputs i).accepts = false) : blockCycle (s.withInputs i) = blockCycle s := by
  simp only [blockCycle, ha, ha', withInputs_inp, hr, withInputs_resetCycle hp, withInputs_st, withInputs_tickBase hp,
    withInputs_lineFault hf, withInputs_enterFault hp, withInputs_fsmStep hp fun _ => hc]
  rfl

/-- The external register reads the pads only. -/
theorem withInputs_nextExt {s : State} {i : Inputs} (hp : i.padExt = s.inp.padExt) (t : State) :
    nextExt (s.withInputs i) t = nextExt s t := by
  simp only [nextExt, nextStage, nextOut, nextAtRise, commitIsFree, capturedBit, padRises, padFalls,
    withInputs_padLevel hp]
  rfl

theorem step_congr {s s' : State} (hb : blockCycle s' = blockCycle s) (he : ∀ t, nextExt s' t = nextExt s t) :
    step s' = step s := by
  simp only [step, fullCycle, hb, he]

theorem step_with_cmd {s : State} {i : Inputs} {rest : List Inputs} (henv : s.env = i :: rest) (w : Word) (b : Bool)
    (ha : s.accepts = false) (ha' : b = i.cmdValid ∨ s.st ≠ .idle) :
    step { s with env := { i with cmd := w, cmdValid := b } :: rest } = step s := by
  obtain rfl := inp_of_env henv
  have hp : ({ s.inp with cmd := w, cmdValid := b } : Inputs).padExt = s.inp.padExt := rfl
  rw [withInputs_of_env henv]
  refine step_congr (withInputs_blockCycle rfl hp rfl rfl ha ?_) (withInputs_nextExt hp)
  rcases ha' with rfl | hs
  · exact ha
  · exact accepts_eq_false_of_busy hs

/-- Settles O21: a cycle without an accepted command does not look at the word, nor at its offer where the block is busy. -/
theorem commandIsReadOnlyWhenAccepted : Obligations.CommandIsReadOnlyWhenAccepted := by
  intro s i rest w b henv
  refine ⟨fun ha => ?_, fun hs => step_with_cmd henv w b (accepts_eq_false_of_busy hs) (.inr hs)⟩
  exact step_with_cmd henv w i.cmdValid ha (.inl rfl)

end Sys2Proof.Machine
end

section
/-! The invariant's part that no phase enters: each line by itself, and the registers (10_state.md R19, R20, R24, R29,
R36). -/

namespace Sys2Proof.Machine

/-- `State.LineInv` as a property of the line's entry alone. -/
structure Line.Ok (L : LineId) (l : Line) : Prop where
  unclaimed : l.claimed = false → l.dir = .input ∧ l.lvl = false ∧ l.armed = false ∧ l.esel = .falling
  armed : l.armed = true → l.isInput = true
  seen : l.seen = true → l.armed = true
  roleOut : roleIsOut L = true → l.claimed = true → l.dir = .output
  roleIn : roleIsIn L = true → l.dir = .input

theorem lineInv_iff (s : State) (L : LineId) : s.LineInv L ↔ (s.line L).Ok L :=
  ⟨fun ⟨h1, h2, h3, h4, h5⟩ => ⟨h1, h2, h3, h4, h5⟩, fun ⟨h1, h2, h3, h4, h5⟩ => ⟨h1, h2, h3, h4, h5⟩⟩

namespace Line.Ok

variable {L : LineId} {l : Line}

theorem sample (h : l.Ok L) (p : Level) : (l.sample p).Ok L := ⟨h.unclaimed, h.armed, h.seen, h.roleOut, h.roleIn⟩

/-- The detector sets `seen` of armed lines only. -/
theorem detect (h : l.Ok L) : l.detect.Ok L where
  unclaimed := h.unclaimed
  armed := h.armed
  seen hs := by
    rw [Line.detect_seen, Bool.or_eq_true, Bool.and_eq_true] at hs
    exact hs.elim h.seen And.left
  roleOut := h.roleOut
  roleIn := h.roleIn

theorem level (h : l.Ok L) (hc : l.claimed = true) (v : Level) : ({ l with lvl := v } : Line).Ok L :=
  ⟨fun hn => absurd (hc.symm.trans hn) nofun, h.armed, h.seen, h.roleOut, h.roleIn⟩

theorem disarm (h : l.Ok L) : ({ l with armed := false, seen := false } : Line).Ok L where
  unclaimed hc := by
    obtain ⟨hd, hl, -, he⟩ := h.unclaimed hc
    exact ⟨hd, hl, rfl, he⟩
  armed := nofun
  seen := nofun
  roleOut := h.roleOut
  roleIn := h.roleIn

theorem arm (h : l.Ok L) (hi : l.isInput = true) (e : Edge) : (l.arm e).Ok L where
  unclaimed hn := by
    obtain ⟨hc, -⟩ := (Line.isInput_iff l).mp hi
    exact absurd (hc.symm.trans hn) nofun
  armed _ := hi
  seen := nofun
  roleOut := h.roleOut
  roleIn := h.roleIn

theorem claimAs {d : Dir} (ho : roleIsOut L = true → d = .output) (hi : roleIsIn L = true → d = .input) (v : Level)
    (l : Line) : (l.claimAs d v).Ok L := ⟨nofun, nofun, nofun, fun h _ => ho h, hi⟩

theorem free (L : LineId) (l : Line) : l.free.Ok L :=
  ⟨fun _ => ⟨rfl, rfl, rfl, rfl⟩, nofun, nofun, fun _ => nofun, fun _ => rfl⟩

/-- A reset line, whatever its synchroniser holds. -/
theorem reset (L : LineId) (s1 s2 ref : Level) : ({ Line.reset with s1 := s1, s2 := s2, ref := ref } : Line).Ok L :=
  ⟨fun _ => ⟨rfl, rfl, rfl, rfl⟩, nofun, nofun, fun _ => nofun, fun _ => rfl⟩

/-- EnterFault sets the level of claimed outputs only. -/
theorem enterFault (h : l.Ok L) : (l.enterFault L).Ok L where
  unclaimed hc := by
    obtain ⟨hd, hl, -, he⟩ := h.unclaimed hc
    refine ⟨hd, ?_, rfl, he⟩
    have ho : l.isOutput = false := by simp [Line.isOutput, hd]
    cases L <;> simp [Line.enterFault, ho, hl]
  armed := nofun
  seen := nofun
  roleOut := h.roleOut
  roleIn := h.roleIn

end Line.Ok

/-- What the invariant says whatever the phase: of the lines, of the delays and of the levels stored. -/
def State.Static (s : State) : Prop :=
  (∀ L, (s.line L).Ok L) ∧ s.settle ≠ 0 ∧ s.intpulse ≠ 0 ∧ s.pat.toNat ≤ 5 ∧ s.lastLevel.toNat ≤ 5

namespace State.Static

variable {s : State}

theorem line (h : s.Static) (L : LineId) : (s.line L).Ok L := by
  obtain ⟨hl, -⟩ := h
  exact hl L

theorem settle_ne_zero (h : s.Static) : s.settle ≠ 0 := by
  obtain ⟨-, hs, -⟩ := h
  exact hs

theorem intpulse_ne_zero (h : s.Static) : s.intpulse ≠ 0 := by
  obtain ⟨-, -, hi, -⟩ := h
  exact hi

/-- Only the lines have changed. -/
theorem of_lines {t : State} (h : s.Static) (hl : ∀ L, (t.line L).Ok L) (hs : t.settle = s.settle)
    (hi : t.intpulse = s.intpulse) (hp : t.pat = s.pat) (hv : t.lastLevel = s.lastLevel) : t.Static := by
  obtain ⟨-, h⟩ := h
  rw [State.Static, hs, hi, hp, hv]
  exact ⟨hl, h⟩

theorem tick (h : s.Static) : s.tick.Static :=
  h.of_lines (fun L => by rw [State.tick_line]; exact (h.line L).detect.sample _) rfl rfl rfl rfl

theorem tickBase (h : s.Static) : s.tickBase.Static :=
  h.of_lines (fun L => by rw [State.tickBase_line]; exact (h.line L).sample _) rfl rfl rfl rfl

theorem updLine (h : s.Static) {M : LineId} {f : Line → Line} (hf : (f (s.line M)).Ok M) : (s.updLine M f).Static := by
  refine h.of_lines (fun L => ?_) rfl rfl rfl rfl
  rw [State.updLine_line]
  split
  · next hL => rw [hL]; exact hf
  · exact h.line L

theorem drive (h : s.Static) {M : LineId} (hc : (s.line M).claimed = true) (v : Level) : (s.drive M v).Static :=
  h.updLine ((h.line M).level hc v)

theorem disarm (h : s.Static) (M : LineId) : (s.disarm M).Static := h.updLine (h.line M).disarm

theorem enterFault (h : s.Static) (c : Status) (a : Bool) : (s.enterFault c a).Static := by
  refine h.of_lines (fun L => ?_) (by simp) (by simp) (by simp) (by simp)
  rw [State.enterFault_line]
  exact ((h.line L).sample _).enterFault

theorem reset : State.reset.Static :=
  ⟨fun L => by rw [State.reset_line]; exact .reset L true true true, reset_settle_ne_zero, reset_intpulse_ne_zero,
    Nat.zero_le 5, Nat.zero_le 5⟩

theorem resetCycle (s : State) : s.resetCycle.Static := by
  refine reset.of_lines (fun L => ?_) rfl rfl rfl rfl
  rw [State.resetCycle_line]
  exact .reset L _ _ _

end State.Static

end Sys2Proof.Machine
end

section
/-! The invariant phase by phase: what it says in each FSM state, so that a transition is proved from the phase it leaves to
the phase it enters. -/

namespace Sys2Proof.Machine

/-- The block is not in FAULT (10_state.md R39). -/
def State.NoFault (s : State) : Prop := s.fault = false ∧ s.faultCode = .ok

/-- The last status is the last response's (10_state.md R38). -/
def State.Reported (s : State) : Prop := s.rspValid = true → s.lastStatus = s.rspStatus

/-- A command is in progress: no fault, and no response (10_state.md R37). -/
def State.InProgress (s : State) : Prop := s.NoFault ∧ s.rspValid = false

/-- Outside the handshake a claimed interrupt line is HIGH and ack is not armed (42_handshake.md R96, R104). -/
def State.ChannelIdle (s : State) : Prop :=
  ((s.line .interrupt).claimed = true → (s.line .interrupt).lvl = true) ∧ (s.line .ack).armed = false

/-- A byte of SEND or XMIT is being shifted over claimed lines (41_shift_register_link.md R81). -/
def State.Sending (s : State) : Prop :=
  s.InProgress ∧ s.ChannelIdle ∧ s.linkClaimed = true ∧ (s.op = .send ∨ (s.op = .xmit ∧ s.channelClaimed = true))

/-- The data line shows the bit being shifted (41_shift_register_link.md R82). -/
def State.DataShown (s : State) : Prop := (s.line .data).lvl = s.pat.getLsbD s.bitidx.toNat

/-- A hold state has lasted at most `d` cycles (10_state.md R28). -/
def State.HeldFor (s : State) (d : Data) : Prop := 1 ≤ s.cnt.toNat ∧ s.cnt.toNat ≤ d.toNat

/-- A handshake of HSHAKE or XMIT goes on over claimed lines (42_handshake.md R97). -/
def State.Shaking (s : State) : Prop := s.channelClaimed = true ∧ (s.op = .hshake ∨ s.op = .xmit)

/-- A bounded wait has not run out (40_signal_line.md R78). -/
def State.Bounded (s : State) : Prop := s.wto = true → s.wcnt.toNat < s.timeout.toNat

/-- What the invariant says in each FSM state. -/
def State.At (s : State) : FsmState → Prop
  | .idle => s.NoFault ∧ s.Reported ∧ s.ChannelIdle
  | .sData => s.Sending ∧ s.DataShown
  | .sClkH => s.Sending ∧ s.DataShown ∧ (s.line .clock).lvl = true ∧ s.HeldFor s.settle
  | .sClkL => s.Sending ∧ s.DataShown ∧ (s.line .clock).lvl = false ∧ s.HeldFor s.settle
  | .lHigh => s.Sending ∧ s.DataShown ∧ (s.line .latch).lvl = true ∧ (s.line .clock).lvl = false ∧ s.bitidx = 0 ∧
      s.HeldFor s.settle
  | .iPre => s.InProgress ∧ s.ChannelIdle ∧ s.op = .xmit ∧ s.channelClaimed = true
  | .iAssert => s.InProgress ∧ s.Shaking ∧ (s.line .interrupt).lvl = false ∧ (s.line .ack).armed = false ∧
      s.HeldFor s.intpulse
  | .iAwait => s.InProgress ∧ s.Shaking ∧ (s.line .interrupt).lvl = true ∧ s.wline = .ack ∧
      (s.line .ack).armed = true ∧ (s.line .ack).esel = .falling ∧ s.wto = (s.timeout != 0) ∧ s.Bounded
  | .wAwait => s.InProgress ∧ s.ChannelIdle ∧ s.op = .wait ∧ isRole s.wline = false ∧
      (s.line s.wline).armed = true ∧ s.Bounded
  | .fault => s.fault = true ∧ s.faultCode.isFatal = true ∧ s.Reported ∧ s.ChannelIdle

variable {s : State}

theorem linkClaimed_iff :
    s.linkClaimed = true ↔
      (s.line .data).isOutput = true ∧ (s.line .clock).isOutput = true ∧ (s.line .latch).isOutput = true := by
  simp [State.linkClaimed, and_assoc]

theorem channelClaimed_iff :
    s.channelClaimed = true ↔ (s.line .interrupt).isOutput = true ∧ (s.line .ack).isInput = true := by
  simp [State.channelClaimed]

theorem Line.claimed_of_isOutput {l : Line} (h : l.isOutput = true) : l.claimed = true := by
  obtain ⟨hc, -⟩ := l.isOutput_iff.mp h
  exact hc

theorem channelClaimed_interrupt (h : s.channelClaimed = true) : (s.line .interrupt).claimed = true := by
  obtain ⟨hint, -⟩ := channelClaimed_iff.mp h
  exact Line.claimed_of_isOutput hint

theorem static_of_inv (h : s.Inv) : s.Static :=
  ⟨fun L => (lineInv_iff s L).mp (h.line L), h.settle, h.intpulse, h.pat, h.lastLevel⟩

theorem at_of_inv (h : s.Inv) : s.At s.st := by
  have hreported : s.Reported := fun hv => (h.response hv).1
  have hnofault (hf : s.st ≠ .fault) : s.NoFault := by
    have hflag := h.faultFlag
    have hcode := h.faultCode
    rw [if_neg hf] at hcode
    exact ⟨by simpa [hf] using hflag, hcode⟩
  have hbusy (hi : s.st ≠ .idle) (hf : s.st ≠ .fault) : s.InProgress := by
    refine ⟨hnofault hf, Bool.eq_false_iff.mpr fun hv => ?_⟩
    obtain ⟨-, hs⟩ := h.response hv
    exact hs.elim hi hf
  have hidle (ha : s.st ≠ .iAssert) (hw : s.st ≠ .iAwait) : s.ChannelIdle := by
    refine ⟨fun hc => ?_, Bool.eq_false_iff.mpr fun harm => hw (h.ackArmed harm).1⟩
    have hlow := h.interrupt hc
    simpa [ha] using hlow
  have hsending (hs : s.st.shifting = true) (hi : s.st ≠ .idle) (hf : s.st ≠ .fault) (ha : s.st ≠ .iAssert)
      (hw : s.st ≠ .iAwait) : s.Sending := ⟨hbusy hi hf, hidle ha hw, h.shifting hs⟩
  cases hst : s.st <;> simp only [hst, ne_eq, reduceCtorEq, not_false_eq_true, forall_const, not_true_eq_false,
    false_implies, FsmState.shifting] at hnofault hbusy hidle hsending
  case idle => exact ⟨hnofault, hreported, hidle⟩
  case sData => exact ⟨hsending, h.dataBit (by rw [hst]; rfl)⟩
  case sClkH => exact ⟨hsending, h.dataBit (by rw [hst]; rfl), h.clkHigh hst⟩
  case sClkL => exact ⟨hsending, h.dataBit (by rw [hst]; rfl), h.clkLow hst⟩
  case lHigh => exact ⟨hsending, h.dataBit (by rw [hst]; rfl), h.latchHigh hst⟩
  case iPre => exact ⟨hbusy, hidle, h.iPre hst⟩
  case iAssert =>
    have hsh := h.handshake (.inl hst)
    refine ⟨hbusy, hsh, (h.interrupt (channelClaimed_interrupt hsh.1)).mpr hst, ?_, h.pulse hst⟩
    exact Bool.eq_false_iff.mpr fun harm => absurd (hst.symm.trans (h.ackArmed harm).1) nofun
  case iAwait =>
    have hsh := h.handshake (.inr hst)
    have hlow := h.interrupt (channelClaimed_interrupt hsh.1)
    obtain ⟨hwl, harm, hto⟩ := h.iAwait hst
    exact ⟨hbusy, hsh, by simpa [hst] using hlow, hwl, harm, (h.ackArmed harm).2, hto, h.bound (by rw [hst]; rfl)⟩
  case wAwait =>
    obtain ⟨hop, hrole, harm⟩ := h.wAwait hst
    exact ⟨hbusy, hidle, hop, hrole, harm, h.bound (by rw [hst]; rfl)⟩
  case fault =>
    have hcode := h.faultCode
    rw [if_pos hst] at hcode
    exact ⟨h.faultFlag.mpr hst, hcode, hreported, hidle⟩

theorem State.At.sending {p : FsmState} (h : s.At p) (hp : p.shifting = true) : s.Sending ∧ s.DataShown := by
  match p, hp with
  | .sData, _ => exact h
  | .sClkH, _ | .sClkL, _ | .lHigh, _ =>
    obtain ⟨hsend, hdata, -⟩ := h
    exact ⟨hsend, hdata⟩

theorem State.At.inProgress {p : FsmState} (h : s.At p) (hi : p ≠ .idle) (hf : p ≠ .fault) : s.InProgress := by
  cases p with
  | idle => exact absurd rfl hi
  | fault => exact absurd rfl hf
  | sData | sClkH | sClkL | lHigh =>
    obtain ⟨⟨hp, -⟩, -⟩ := h
    exact hp
  | iPre | iAssert | iAwait | wAwait =>
    obtain ⟨hp, -⟩ := h
    exact hp

theorem State.At.noFault {p : FsmState} (h : s.At p) (hf : p ≠ .fault) : s.NoFault := by
  by_cases hi : p = .idle
  · subst hi
    obtain ⟨hn, -⟩ := h
    exact hn
  · obtain ⟨hn, -⟩ := h.inProgress hi hf
    exact hn

theorem State.At.channelIdle {p : FsmState} (h : s.At p) (ha : p ≠ .iAssert) (hw : p ≠ .iAwait) : s.ChannelIdle := by
  cases p with
  | iAssert => exact absurd rfl ha
  | iAwait => exact absurd rfl hw
  | sData | sClkH | sClkL | lHigh =>
    obtain ⟨⟨-, hc, -⟩, -⟩ := h
    exact hc
  | idle =>
    obtain ⟨-, -, hc⟩ := h
    exact hc
  | fault =>
    obtain ⟨-, -, -, hc⟩ := h
    exact hc
  | iPre | wAwait =>
    obtain ⟨-, hc, -⟩ := h
    exact hc

theorem State.At.bounded {p : FsmState} (h : s.At p) (hp : p.waiting = true) : s.Bounded := by
  match p, hp with
  | .iAwait, _ =>
    obtain ⟨-, -, -, -, -, -, -, hb⟩ := h
    exact hb
  | .wAwait, _ =>
    obtain ⟨-, -, -, -, -, hb⟩ := h
    exact hb

theorem State.At.of_eq {p : FsmState} (h : s.At s.st) (e : s.st = p) : s.At p := e ▸ h

/-- A clause of the invariant on one phase is read off that phase; the others are the lemmas above. -/
theorem inv_of_at (hs : s.Static) (h : s.At s.st) : s.Inv where
  line L := (lineInv_iff s L).mpr (hs.line L)
  settle := hs.settle_ne_zero
  intpulse := hs.intpulse_ne_zero
  pat := by
    obtain ⟨-, -, -, hpat, -⟩ := hs
    exact hpat
  lastLevel := by
    obtain ⟨-, -, -, -, hlast⟩ := hs
    exact hlast
  faultFlag := by
    by_cases hf : s.st = .fault
    · obtain ⟨hflag, -⟩ := h.of_eq hf
      exact iff_of_true hflag hf
    · obtain ⟨hflag, -⟩ := h.noFault hf
      simp [hflag, hf]
  faultCode := by
    split
    · next hf =>
      obtain ⟨-, hcode, -⟩ := h.of_eq hf
      exact hcode
    · next hf =>
      obtain ⟨-, hcode⟩ := h.noFault hf
      exact hcode
  response hv := by
    by_cases hi : s.st = .idle
    · obtain ⟨-, hr, -⟩ := h.of_eq hi
      exact ⟨hr hv, .inl hi⟩
    · by_cases hf : s.st = .fault
      · obtain ⟨-, -, hr, -⟩ := h.of_eq hf
        exact ⟨hr hv, .inr hf⟩
      · obtain ⟨-, hv'⟩ := h.inProgress hi hf
        exact absurd (hv.symm.trans hv') nofun
  interrupt hc := by
    by_cases ha : s.st = .iAssert
    · obtain ⟨-, -, hlow, -⟩ := h.of_eq ha
      exact iff_of_true hlow ha
    · have hhigh : (s.line .interrupt).lvl = true := by
        by_cases hw : s.st = .iAwait
        · obtain ⟨-, -, hhigh, -⟩ := h.of_eq hw
          exact hhigh
        · exact (h.channelIdle ha hw).1 hc
      simp [hhigh, ha]
  ackArmed harm := by
    by_cases hw : s.st = .iAwait
    · obtain ⟨-, -, -, -, -, hsel, -⟩ := h.of_eq hw
      exact ⟨hw, hsel⟩
    · have hoff : (s.line .ack).armed = false := by
        by_cases ha : s.st = .iAssert
        · obtain ⟨-, -, -, hoff, -⟩ := h.of_eq ha
          exact hoff
        · exact (h.channelIdle ha hw).2
      exact absurd (harm.symm.trans hoff) nofun
  shifting hp := by
    obtain ⟨⟨-, -, hclaimed⟩, -⟩ := h.sending hp
    exact hclaimed
  iPre e := by
    obtain ⟨-, -, hxmit⟩ := h.of_eq e
    exact hxmit
  handshake e := by
    rcases e with e | e
    · obtain ⟨-, hsh, -⟩ := h.of_eq e
      exact hsh
    · obtain ⟨-, hsh, -⟩ := h.of_eq e
      exact hsh
  iAwait e := by
    obtain ⟨-, -, -, hw, harm, -, hto, -⟩ := h.of_eq e
    exact ⟨hw, harm, hto⟩
  wAwait e := by
    obtain ⟨-, -, hop, hr, harm, -⟩ := h.of_eq e
    exact ⟨hop, hr, harm⟩
  bound hp := h.bounded hp
  clkHigh e := by
    obtain ⟨-, -, hclock⟩ := h.of_eq e
    exact hclock
  clkLow e := by
    obtain ⟨-, -, hclock⟩ := h.of_eq e
    exact hclock
  latchHigh e := by
    obtain ⟨-, -, hlatch⟩ := h.of_eq e
    exact hlatch
  pulse e := by
    obtain ⟨-, -, -, -, hheld⟩ := h.of_eq e
    exact hheld
  dataBit hp := by
    obtain ⟨-, hdata⟩ := h.sending hp
    exact hdata

end Sys2Proof.Machine
end

section
/-! Every step keeps the invariant: each effect goes from the phase it leaves to the phase it enters. -/

namespace Sys2Proof.Machine

/-! ## What the operations keep of a phase -/

/-- Of what the always-running updates write, a phase speaks of `rsp_valid` only, which falls. -/
theorem State.At.tick {s : State} {p : FsmState} (h : s.At p) : s.tick.At p := by
  cases p with
  | idle =>
    obtain ⟨hn, -, hc⟩ := h
    exact ⟨hn, nofun, hc⟩
  | fault =>
    obtain ⟨hf, hcode, -, hc⟩ := h
    exact ⟨hf, hcode, nofun, hc⟩
  | sData | sClkH | sClkL | lHigh =>
    obtain ⟨⟨⟨hn, -⟩, h⟩, h'⟩ := h
    exact ⟨⟨⟨hn, rfl⟩, h⟩, h'⟩
  | iPre | iAssert | iAwait =>
    obtain ⟨⟨hn, -⟩, h⟩ := h
    exact ⟨⟨hn, rfl⟩, h⟩
  | wAwait =>
    obtain ⟨⟨hn, -⟩, hc, hop, hr, ha, hb⟩ := h
    exact ⟨⟨hn, rfl⟩, hc, hop, hr, by rw [State.tick_line]; exact ha, hb⟩

theorem drive_line_claimed (s : State) (L M : LineId) (v : Level) :
    ((s.drive M v).line L).claimed = (s.line L).claimed := by
  by_cases h : L = M <;> simp [h]

theorem drive_line_dir (s : State) (L M : LineId) (v : Level) :
    ((s.drive M v).line L).dir = (s.line L).dir := by
  by_cases h : L = M <;> simp [h]

theorem drive_linkClaimed (s : State) (M : LineId) (v : Level) : (s.drive M v).linkClaimed = s.linkClaimed := by
  simp only [State.linkClaimed, Line.isOutput, drive_line_claimed, drive_line_dir]

theorem drive_channelClaimed (s : State) (M : LineId) (v : Level) :
    (s.drive M v).channelClaimed = s.channelClaimed := by
  simp only [State.channelClaimed, Line.isOutput, Line.isInput, drive_line_claimed, drive_line_dir]

variable {s : State}

/-- A write keeps the channel idle that neither lowers a claimed interrupt line nor arms ack. -/
theorem State.ChannelIdle.updLine (h : s.ChannelIdle) {M : LineId} {f : Line → Line}
    (hi : M = .interrupt → (f (s.line M)).claimed = true → (f (s.line M)).lvl = true)
    (ha : M = .ack → (f (s.line M)).armed = false) : (s.updLine M f).ChannelIdle := by
  obtain ⟨hint, hack⟩ := h
  rw [State.ChannelIdle, State.updLine_line, State.updLine_line]
  constructor
  · split
    · next hM => exact hi hM.symm
    · exact hint
  · split
    · next hM => exact ha hM.symm
    · exact hack

theorem State.ChannelIdle.drive (h : s.ChannelIdle) {M : LineId} (v : Level) (hM : M ≠ .interrupt) :
    (s.drive M v).ChannelIdle := by
  refine h.updLine (fun e => absurd e hM) ?_
  rintro rfl
  exact h.2

theorem State.Sending.drive (h : s.Sending) {M : LineId} (v : Level) (hM : M ≠ .interrupt) : (s.drive M v).Sending := by
  obtain ⟨hp, hc, hl, ho⟩ := h
  refine ⟨hp, hc.drive v hM, ?_, ?_⟩
  · rw [drive_linkClaimed]; exact hl
  · rw [drive_channelClaimed]; exact ho

/-- The first cycle of a hold state lasts one cycle of a delay that is not 0. -/
theorem heldFor_one {d : Data} (hd : d ≠ 0) (h : s.cnt = 1) : s.HeldFor d := by
  rw [State.HeldFor, h]
  constructor <;> bv_omega

theorem heldFor_succ {t : State} {d : Data} (h : s.HeldFor d) (hlt : s.cnt < d) (ht : t.cnt = s.cnt + 1) :
    t.HeldFor d := by
  rw [State.HeldFor, ht] at *
  constructor <;> bv_omega

/-- A response ends a phase without fault whose channel is idle. -/
theorem inv_respond (hs : s.Static) (hn : s.NoFault) (hc : s.ChannelIdle) (c : Status) (d : Data) :
    (s.respond c d).Inv := inv_of_at hs ⟨hn, fun _ => rfl, hc⟩

/-! ## The link: S_DATA to L_HIGH (41_shift_register_link.md R82 to R85) -/

theorem State.Sending.claimed (h : s.Sending) :
    (s.line .data).claimed = true ∧ (s.line .clock).claimed = true ∧ (s.line .latch).claimed = true := by
  obtain ⟨-, -, hl, -⟩ := h
  obtain ⟨hd, hc, hla⟩ := linkClaimed_iff.mp hl
  exact ⟨Line.claimed_of_isOutput hd, Line.claimed_of_isOutput hc, Line.claimed_of_isOutput hla⟩

theorem inv_raiseClock (hs : s.Static) (h : s.At .sData) :
    State.Inv { s.drive .clock true with cnt := 1, st := .sClkH } := by
  obtain ⟨hsend, hdata⟩ := h
  obtain ⟨-, hclock, -⟩ := hsend.claimed
  exact inv_of_at (hs.drive hclock true) ⟨hsend.drive true nofun, hdata, rfl, heldFor_one hs.settle_ne_zero rfl⟩

theorem inv_lowerClock (hs : s.Static) (h : s.At .sClkH) :
    State.Inv { s.drive .clock false with cnt := 1, st := .sClkL } := by
  obtain ⟨hsend, hdata, -⟩ := h
  obtain ⟨-, hclock, -⟩ := hsend.claimed
  exact inv_of_at (hs.drive hclock false) ⟨hsend.drive false nofun, hdata, rfl, heldFor_one hs.settle_ne_zero rfl⟩

theorem inv_holdLink (hs : s.Static) {p : FsmState} (hp : p = .sClkH ∨ p = .sClkL ∨ p = .lHigh) (hst : s.st = p)
    (h : s.At p) (hlt : s.cnt < s.settle) : State.Inv { s with cnt := s.cnt + 1 } := by
  refine inv_of_at hs ?_
  show State.At _ s.st
  rw [hst]
  rcases hp with rfl | rfl | rfl
  · obtain ⟨hsend, hdata, hclock, hheld⟩ := h
    exact ⟨hsend, hdata, hclock, heldFor_succ hheld hlt rfl⟩
  · obtain ⟨hsend, hdata, hclock, hheld⟩ := h
    exact ⟨hsend, hdata, hclock, heldFor_succ hheld hlt rfl⟩
  · obtain ⟨hsend, hdata, hlatch, hclock, hbit, hheld⟩ := h
    exact ⟨hsend, hdata, hlatch, hclock, hbit, heldFor_succ hheld hlt rfl⟩

theorem inv_nextBit (hs : s.Static) (h : s.At .sClkL) (hb : s.bitidx ≠ 0) :
    State.Inv { s.drive .data (s.pat.getLsbD (s.bitidx.toNat - 1)) with bitidx := s.bitidx - 1, st := .sData } := by
  obtain ⟨hsend, -⟩ := h
  obtain ⟨hdata, -⟩ := hsend.claimed
  have hbit : s.bitidx.toNat - 1 = (s.bitidx - 1).toNat := by bv_omega
  exact inv_of_at (hs.drive hdata _) ⟨hsend.drive _ nofun, congrArg s.pat.getLsbD hbit⟩

theorem inv_raiseLatch (hs : s.Static) (h : s.At .sClkL) (hb : s.bitidx = 0) :
    State.Inv { s.drive .latch true with cnt := 1, st := .lHigh } := by
  obtain ⟨hsend, hdata, hclock, -⟩ := h
  obtain ⟨-, -, hlatch⟩ := hsend.claimed
  exact inv_of_at (hs.drive hlatch true) ⟨hsend.drive true nofun, hdata, rfl, hclock, hb, heldFor_one hs.settle_ne_zero rfl⟩

/-- The level latched is the pattern's, which three bits hold. -/
theorem static_latched (hs : s.Static) (hc : (s.line .latch).claimed = true) :
    State.Static { s.drive .latch false with lastLevel := s.pat.setWidth 3 } := by
  obtain ⟨hl, hset, hint, hpat, -⟩ := hs.drive hc false
  refine ⟨hl, hset, hint, hpat, ?_⟩
  have hpat' : s.pat.toNat ≤ 5 := hpat
  show (s.pat.setWidth 3).toNat ≤ 5
  rw [BitVec.toNat_setWidth]
  omega

theorem inv_sendDone (hs : s.Static) (h : s.At .lHigh) :
    (State.respond { s.drive .latch false with lastLevel := s.pat.setWidth 3 } .ok 0).Inv := by
  obtain ⟨hsend, -⟩ := h
  obtain ⟨-, -, hlatch⟩ := hsend.claimed
  obtain ⟨⟨hn, -⟩, hc, -⟩ := hsend
  exact inv_respond (static_latched hs hlatch) hn (hc.drive false nofun) .ok 0

theorem inv_latchDone (hs : s.Static) (h : s.At .lHigh) (ho : s.op ≠ .send) :
    State.Inv { s.drive .latch false with lastLevel := s.pat.setWidth 3, st := .iPre } := by
  obtain ⟨hsend, -⟩ := h
  obtain ⟨-, -, hlatch⟩ := hsend.claimed
  obtain ⟨hp, hc, -, hop⟩ := hsend
  obtain ⟨hxmit, hchannel⟩ := hop.resolve_left ho
  exact inv_of_at (static_latched hs hlatch)
    ⟨hp, hc.drive false nofun, hxmit, (drive_channelClaimed ..).trans hchannel⟩

/-! ## The handshake: I_PRE to I_AWAIT (42_handshake.md R97 to R100, 44_transmit_cycle.md R116) -/

/-- The interrupt falls and its pulse begins, for HSHAKE or XMIT. -/
theorem inv_assertInterrupt {o : Op} (hs : s.Static) (hn : s.NoFault) (hv : s.rspValid = false)
    (hack : (s.line .ack).armed = false) (hc : s.channelClaimed = true) (ho : o = .hshake ∨ o = .xmit) :
    State.Inv { s.assertInterrupt with op := o } := by
  exact inv_of_at (hs.drive (channelClaimed_interrupt hc) false)
    ⟨⟨hn, hv⟩, ⟨(drive_channelClaimed ..).trans hc, ho⟩, rfl, hack, heldFor_one hs.intpulse_ne_zero rfl⟩

theorem inv_startPulse (hs : s.Static) (h : s.At .iPre) : s.assertInterrupt.Inv := by
  obtain ⟨⟨hn, hv⟩, ⟨-, hack⟩, hop, hc⟩ := h
  exact inv_assertInterrupt hs hn hv hack hc (.inr hop)

theorem inv_holdPulse (hs : s.Static) (hst : s.st = .iAssert) (h : s.At .iAssert) (hlt : s.cnt < s.intpulse) :
    State.Inv { s with cnt := s.cnt + 1 } := by
  obtain ⟨hp, hsh, hlow, hack, hheld⟩ := h
  refine inv_of_at hs ?_
  show State.At _ s.st
  rw [hst]
  exact ⟨hp, hsh, hlow, hack, heldFor_succ hheld hlt rfl⟩

/-- A bound of at least one cycle is not used up by none. -/
theorem bounded_zero {s : State} (hw : s.wcnt = 0) (ht : s.wto = true → s.timeout ≠ 0) : s.Bounded := by
  intro hto
  have := ht hto
  rw [hw]
  bv_omega

theorem inv_pulseDone (hs : s.Static) (h : s.At .iAssert) :
    State.Inv { (s.drive .interrupt true).updLine .ack (.arm .falling) with
      wline := .ack, wcnt := 0, wto := s.timeout != 0, st := .iAwait } := by
  obtain ⟨hp, ⟨hc, ho⟩, -⟩ := h
  obtain ⟨-, hin⟩ := channelClaimed_iff.mp hc
  have hdriven := hs.drive (channelClaimed_interrupt hc) true
  exact inv_of_at (hdriven.updLine ((hdriven.line .ack).arm hin .falling))
    ⟨hp, ⟨hc, ho⟩, rfl, rfl, rfl, rfl, rfl, bounded_zero rfl (by simp)⟩

/-! ## The waits (40_signal_line.md R78) -/

/-- Disarming the watched line leaves the channel idle, whichever wait it is. -/
theorem channelIdle_of_waiting {p : FsmState} (hp : p.waiting = true) (h : s.At p) :
    s.NoFault ∧ (s.disarm s.wline).ChannelIdle := by
  match p, hp with
  | .iAwait, _ =>
    obtain ⟨⟨hn, -⟩, -, hhigh, hw, -⟩ := h
    rw [hw]
    exact ⟨hn, fun _ => hhigh, rfl⟩
  | .wAwait, _ =>
    obtain ⟨⟨hn, -⟩, hc, -⟩ := h
    refine ⟨hn, hc.updLine (fun e => ?_) fun _ => rfl⟩
    rw [e]
    exact hc.1

theorem inv_waitAnswered (hs : s.Static) {p : FsmState} (hp : p.waiting = true) (h : s.At p) (c : Status) (d : Data) :
    ((s.disarm s.wline).respond c d).Inv := by
  obtain ⟨hn, hc⟩ := channelIdle_of_waiting hp h
  exact inv_respond (hs.disarm _) hn hc c d

theorem inv_handshakeDone (hs : s.Static) (h : s.At .iAwait) : (s.disarm s.wline).handshakeDone.Inv := by
  obtain ⟨hn, hc⟩ := channelIdle_of_waiting rfl h
  exact inv_of_at (hs.disarm _) ⟨hn, fun _ => rfl, hc⟩

/-- A wait that goes on keeps its bound. -/
theorem inv_waitCounts (hs : s.Static) {p : FsmState} (hp : p.waiting = true) (hst : s.st = p) (h : s.At p)
    (ht : s.wto = true) (hx : s.waitExpires = false) : State.Inv { s with wcnt := s.wcnt + 1 } := by
  have hnext (hb : s.Bounded) : State.Bounded { s with wcnt := s.wcnt + 1 } := by
    intro _
    have hlt := hb ht
    have hne : s.wcnt.toNat + 1 ≠ s.timeout.toNat := by simpa [State.waitExpires, ht] using hx
    show (s.wcnt + 1).toNat < s.timeout.toNat
    bv_omega
  refine inv_of_at hs ?_
  show State.At _ s.st
  rw [hst]
  match p, hp with
  | .iAwait, _ =>
    obtain ⟨hb, hsh, hhigh, hw, harm, hsel, hto, hbound⟩ := h
    exact ⟨hb, hsh, hhigh, hw, harm, hsel, hto, hnext hbound⟩
  | .wAwait, _ =>
    obtain ⟨hb, hc, hop, hr, harm, hbound⟩ := h
    exact ⟨hb, hc, hop, hr, harm, hnext hbound⟩

/-! ## The effects -/

theorem inv_tick (h : s.Inv) : s.tick.Inv := inv_of_at (static_of_inv h).tick (at_of_inv h).tick

theorem FsmEffect.inv {t : State} (h : FsmEffect s t) (hinv : s.Inv) : t.Inv := by
  have hs := (static_of_inv hinv).tick
  have hat := (at_of_inv hinv).tick
  cases h with
  | idle _ => exact inv_tick hinv
  | raiseClock hst => exact inv_raiseClock hs (hst ▸ hat)
  | holdLink hst hlt => exact inv_holdLink hs hst rfl hat hlt
  | lowerClock hst => exact inv_lowerClock hs (hst ▸ hat)
  | nextBit hst hb => exact inv_nextBit hs (hst ▸ hat) hb
  | raiseLatch hst hb => exact inv_raiseLatch hs (hst ▸ hat) hb
  | sendDone hst _ => exact inv_sendDone hs (hst ▸ hat)
  | latchDone hst ho => exact inv_latchDone hs (hst ▸ hat) ho
  | startPulse hst => exact inv_startPulse hs (hst ▸ hat)
  | holdPulse hst hlt => exact inv_holdPulse hs hst (hst ▸ hat) hlt
  | pulseDone hst => exact inv_pulseDone hs (hst ▸ hat)
  | waitAnswered c hw => exact inv_waitAnswered hs hw hat c 0
  | handshakeDone hst => exact inv_handshakeDone hs (hst ▸ hat)
  | waitCounts hw ht hx => exact inv_waitCounts hs hw rfl hat ht hx
  | waitGoesOn _ _ => exact inv_tick hinv

/-- EnterFault returns a claimed interrupt line, an output by its role, to HIGH (60_exceptions.md R130). -/
theorem inv_enterFault (hs : s.Static) {c : Status} (hc : c.isFatal = true) (a : Bool) : (s.enterFault c a).Inv := by
  refine inv_of_at (hs.enterFault c a) ?_
  rw [State.enterFault_st]
  refine ⟨by simp, by simpa using hc, fun hv => ?_, fun hclaimed => ?_, by simp⟩
  · rw [State.enterFault_rspValid] at hv
    simp [hv]
  · have hclaimed' : (s.line .interrupt).claimed = true := by simpa using hclaimed
    have hout : (s.line .interrupt).isOutput = true :=
      (Line.isOutput_iff _).mpr ⟨hclaimed', (hs.line .interrupt).roleOut rfl hclaimed'⟩
    rw [enterFault_lvl]
    simp [State.faultLevel, hout]

theorem quantize_le (v : Int) : (quantize v).toNat ≤ 5 := by
  unfold quantize
  split_ifs <;> decide

/-- SEND and XMIT put the first bit of a level on the data line (41_shift_register_link.md R81). -/
theorem inv_startShift {o : Op} {pat : Byte} (hs : s.Static) (hn : s.NoFault) (hv : s.rspValid = false)
    (hc : s.ChannelIdle) (hl : s.linkClaimed = true) (ho : o = .send ∨ (o = .xmit ∧ s.channelClaimed = true))
    (hp : pat.toNat ≤ 5) : (s.startShift o pat).Inv := by
  obtain ⟨hdata, -, -⟩ := linkClaimed_iff.mp hl
  obtain ⟨hline, hset, hint, -, hlast⟩ := hs.drive (Line.claimed_of_isOutput hdata) (pat.getLsbD 7)
  refine inv_of_at ⟨hline, hset, hint, hp, hlast⟩ ⟨⟨⟨hn, hv⟩, hc.drive _ nofun, ?_, ?_⟩, rfl⟩
  · exact (drive_linkClaimed ..).trans hl
  · exact ho.imp_right fun ⟨hx, hch⟩ => ⟨hx, (drive_channelClaimed ..).trans hch⟩

theorem static_writeReg (hs : s.Static) {r : RegIndex} {v : Data} (hv : r = .settle ∨ r = .intpulse → v ≠ 0) :
    (s.writeReg r v).Static := by
  obtain ⟨hline, hset, hint, hpat, hlast⟩ := hs
  cases r with
  | settle => exact ⟨hline, hv (.inl rfl), hint, hpat, hlast⟩
  | intpulse => exact ⟨hline, hset, hv (.inr rfl), hpat, hlast⟩
  | timeout | laststat | linecfg | linelvl | xferinfo | reserved7 => exact ⟨hline, hset, hint, hpat, hlast⟩

/-- A line that is no role line is neither the interrupt nor ack. -/
theorem ne_of_isRole_eq_false {L M : LineId} (hL : isRole L = false) (hM : isRole M = true) : L ≠ M := by
  rintro rfl
  exact absurd (hL.symm.trans hM) nofun

theorem CommandEffect.inv {i : Instr} {t : State} (h : CommandEffect s i t) (hinv : s.Inv) (hst : s.st = .idle) :
    t.Inv := by
  have hs := (static_of_inv hinv).tick
  obtain ⟨hn, -, hc⟩ : s.tick.At .idle := hst ▸ (at_of_inv hinv).tick
  cases h with
  | fatal hf => exact inv_enterFault (static_of_inv hinv) hf true
  | answer c d => exact inv_respond hs hn hc c d
  | @cfgout L f hf hr =>
    have hclaim : ∀ l : Line, (l.claimAs .output f).Ok L :=
      Line.Ok.claimAs (fun _ => rfl) (fun hi => absurd (hr.symm.trans hi) nofun) f
    refine inv_respond (hs.updLine (hclaim _)) hn (hc.updLine (fun hL _ => ?_) fun _ => rfl) _ _
    exact Bool.eq_true_of_not_eq_false fun h0 => hf ⟨hL, h0⟩
  | @cfgin L hr =>
    have hclaim : ∀ l : Line, (l.claimAs .input false).Ok L :=
      Line.Ok.claimAs (fun ho => absurd (hr.symm.trans ho) nofun) (fun _ => rfl) false
    refine inv_respond (hs.updLine (hclaim _)) hn (hc.updLine ?_ fun _ => rfl) _ _
    rintro rfl
    cases hr
  | setlvl hr ho =>
    refine inv_respond (hs.drive ?_ _) hn (hc.drive _ (ne_of_isRole_eq_false hr rfl)) _ _
    rw [State.tick_line]
    exact Line.claimed_of_isOutput ho
  | @armedge L e hr hi =>
    have hin : (s.tick.line L).isInput = true := by rw [State.tick_line]; exact hi
    refine inv_respond (hs.updLine ((hs.line L).arm hin e)) hn (hc.updLine ?_ ?_) _ _
    · exact fun e => absurd e (ne_of_isRole_eq_false hr rfl)
    · exact fun e => absurd e (ne_of_isRole_eq_false hr rfl)
  | @waitedge L f hr ha =>
    refine inv_of_at hs ⟨⟨hn, rfl⟩, hc, rfl, hr, ?_, bounded_zero rfl (by simp)⟩
    show (s.tick.line L).armed = true
    rw [State.tick_line]
    exact ha
  | send hv hl =>
    refine inv_startShift hs hn rfl hc hl (.inl rfl) ?_
    rw [BitVec.toNat_setWidth]
    omega
  | hshake hch => exact inv_assertInterrupt hs hn rfl hc.2 hch (.inl rfl)
  | xmit hl hch =>
    refine inv_startShift hs hn rfl hc hl (.inr ⟨rfl, hch⟩) ?_
    rw [BitVec.toNat_setWidth]
    exact (Nat.mod_le _ _).trans (quantize_le _)
  | wrcfg hv =>
    refine inv_respond (static_writeReg hs hv) (by simpa [State.NoFault] using hn) ?_ _ _
    simpa only [State.ChannelIdle, State.writeReg_line] using hc
  | release => exact inv_respond (hs.updLine (.free _ _)) hn (hc.updLine (fun _ => nofun) fun _ => rfl) _ _

theorem inv_reset : State.reset.Inv :=
  inv_of_at .reset ⟨⟨rfl, rfl⟩, nofun, by simp [State.ChannelIdle, Line.reset]⟩

theorem inv_resetCycle (s : State) : s.resetCycle.Inv :=
  inv_of_at (.resetCycle s) ⟨⟨rfl, rfl⟩, nofun, by simp [State.ChannelIdle, Line.reset]⟩

theorem BlockEffect.inv {t : State} (h : BlockEffect s t) (hinv : s.Inv) : t.Inv := by
  have hs := static_of_inv hinv
  have hidle (ha : s.accepts = true) : s.st = .idle := by
    obtain ⟨-, hst, -⟩ := (accepts_iff s).mp ha
    exact hst
  cases h with
  | reset _ => exact inv_resetCycle s
  | hold _ hst =>
    obtain ⟨hf, hcode, -, hc⟩ : s.At .fault := hst ▸ at_of_inv hinv
    refine inv_of_at hs.tickBase ?_
    rw [State.tickBase_st, hst]
    exact ⟨hf, hcode, nofun, hc⟩
  | lineFault _ _ => exact inv_enterFault hs rfl _
  | illegalWord ha => exact (CommandEffect.answer (i := .nop) _ _).inv hinv (hidle ha)
  | command ha hc => exact hc.inv hinv (hidle ha)
  | fsm _ _ _ hf => exact hf.inv hinv

/-- The invariant does not speak of the external register. -/
theorem inv_withExt (h : s.Inv) (e : ExtRegister) : State.Inv { s with ext := e } := by
  have hs : s.Static := static_of_inv h
  have hat : s.At s.st := at_of_inv h
  exact inv_of_at hs hat

/-- Settles O8: after reset no line is claimed, and the delays are at least 1. -/
theorem invariantAtReset : Obligations.InvariantAtReset := inv_reset

/-- Settles O9: every effect of a cycle goes from a phase of the invariant to a phase of it. -/
theorem stepKeepsInvariant : Obligations.StepKeepsInvariant := by
  intro s t hinv h
  obtain ⟨u, e, hu, rfl⟩ := step_effect h
  exact inv_withExt (hu.inv hinv) e

end Sys2Proof.Machine
end

section
/-! The decoder and the encoder (30_encoding.md R61 to R67): a word is its four fields, and a row of the bit-pattern table
fixes whole fields. -/

namespace Sys2Proof

/-- A word is the packing of its fields, and of no others (30_encoding.md R61). -/
theorem packWord_eq_iff (op : BitVec 4) (line : BitVec 3) (f : Bool) (imm : Data) (w : Word) :
    packWord op line f imm = w ↔ opField w = op ∧ lineField w = line ∧ flagField w = f ∧ immField w = imm := by
  constructor
  · rintro rfl
    simp
  · rintro ⟨rfl, rfl, rfl, rfl⟩
    exact packWord_fields w

/-! ## Decoding and encoding are inverse -/

/-- The fields of a command's word are those it was packed from, and the should-be-zero ones among them are zero. -/
theorem decode_encode (i : Instr) : decode (encode i) = .ok i := by
  cases i <;> simp [encode, decode, whenSbz]

/-- In each arm of the decoder the command keeps the fields that are not checked to be zero. -/
theorem encode_of_decode {w : Word} {i : Instr} (h : decode w = .ok i) : encode i = w := by
  dsimp only [decode] at h
  split at h
  case h_14 => cases h
  all_goals
    next hop =>
      obtain ⟨hsbz, rfl⟩ := (whenSbz_ok_iff ..).mp h
      simp only [encode, packWord_eq_iff, LineId.bits_ofBits, RegIndex.bits_ofBits, Edge.bit_ofBit]
      refine ⟨BitVec.eq_of_toNat_eq hop, ?_⟩
      simpa [and_assoc] using hsbz

theorem decode_eq_ok_iff (w : Word) (i : Instr) : decode w = .ok i ↔ encode i = w := by
  refine ⟨encode_of_decode, ?_⟩
  rintro rfl
  exact decode_encode i

/-- Settles O1: the decoder reads back the fields the command was packed from. -/
theorem decodeOfEncode : Obligations.DecodeOfEncode := decode_encode

/-- Settles O2: the fields a command does not keep are the should-be-zero ones. -/
theorem encodeOfDecode : Obligations.EncodeOfDecode := fun _ _ => encode_of_decode

/-! ## The rows of the bit-pattern table (30_encoding.md R64) -/

@[simp] theorem opField_and (v w : Word) : opField (v &&& w) = opField v &&& opField w := BitVec.extractLsb'_and ..

@[simp] theorem lineField_and (v w : Word) : lineField (v &&& w) = lineField v &&& lineField w :=
  BitVec.extractLsb'_and ..

@[simp] theorem flagField_and (v w : Word) : flagField (v &&& w) = (flagField v && flagField w) :=
  BitVec.getLsbD_and ..

@[simp] theorem immField_and (v w : Word) : immField (v &&& w) = immField v &&& immField w := BitVec.extractLsb'_and ..

/-- A row fixes a field as a whole or not at all. -/
def fieldMask (n : Nat) (fixed : Bool) : BitVec n := if fixed then .allOnes n else 0

theorem and_fieldMask_eq_zero_iff {n : Nat} (x : BitVec n) (fixed : Bool) :
    x &&& fieldMask n fixed = 0 ↔ (fixed = true → x = 0) := by
  cases fixed <;> simp [fieldMask]

/-- The mask of a row: the opcode, and those of the other fields that should be zero. -/
def rowMask (line f imm : Bool) : Word := packWord (.allOnes 4) (fieldMask 3 line) f (fieldMask 24 imm)

/-- The fixed bits' values of a row: its opcode, and zero in the fields that should be. -/
def rowPattern (op : BitVec 4) : Word := packWord op 0 false 0

theorem and_rowMask_eq_iff (w : Word) (op : BitVec 4) (line f imm : Bool) :
    w &&& rowMask line f imm = rowPattern op ↔
      opField w = op ∧ (line = true → lineField w = 0) ∧ (f = true → flagField w = false) ∧
        (imm = true → immField w = 0) := by
  have hflag : (flagField w && f) = false ↔ (f = true → flagField w = false) := by cases f <;> simp
  rw [rowPattern, eq_comm, packWord_eq_iff, opField_and, lineField_and, flagField_and, immField_and, rowMask,
    opField_packWord, lineField_packWord, flagField_packWord, immField_packWord, BitVec.and_allOnes,
    and_fieldMask_eq_zero_iff, and_fieldMask_eq_zero_iff, hflag]

/-- The table, row by row: the opcode, and which of the fields line, flag and immediate should be zero. -/
theorem opcodeRows_eq : opcodeRows = [
    ⟨"NOP", rowPattern 0x0, rowMask true true true⟩,
    ⟨"CFGOUT", rowPattern 0x1, rowMask false false true⟩,
    ⟨"CFGIN", rowPattern 0x2, rowMask false true true⟩,
    ⟨"SETLVL", rowPattern 0x3, rowMask false false true⟩,
    ⟨"ARMEDGE", rowPattern 0x4, rowMask false false true⟩,
    ⟨"WAITEDGE", rowPattern 0x5, rowMask false false true⟩,
    ⟨"SEND", rowPattern 0x6, rowMask true true false⟩,
    ⟨"HSHAKE", rowPattern 0x7, rowMask true true true⟩,
    ⟨"QUANT", rowPattern 0x8, rowMask true true false⟩,
    ⟨"XMIT", rowPattern 0x9, rowMask true true false⟩,
    ⟨"WRCFG", rowPattern 0xA, rowMask false true false⟩,
    ⟨"RDCFG", rowPattern 0xB, rowMask false true true⟩,
    ⟨"RELEASE", rowPattern 0xC, rowMask false true true⟩] := by
  decide

/-- A command's word matches the row of its mnemonic. -/
theorem encode_matches_row (i : Instr) :
    ∃ r ∈ opcodeRows, r.mnemonic = i.mnemonic ∧ encode i &&& r.mask = r.pattern := by
  rw [opcodeRows_eq]
  cases i <;> simp [encode, Instr.mnemonic, and_rowMask_eq_iff]

/-- A word that matches a row is the word of a command of that row, whose operands are the fields the row leaves open. -/
theorem exists_encode_of_matches_row {w : Word} {r : OpcodeRow} (hr : r ∈ opcodeRows) (h : w &&& r.mask = r.pattern) :
    ∃ i, encode i = w ∧ i.mnemonic = r.mnemonic := by
  revert r
  simp only [opcodeRows_eq, List.forall_mem_cons, and_rowMask_eq_iff, true_implies, false_implies, reduceCtorEq]
  refine ⟨fun h => ⟨.nop, ?_, rfl⟩, fun h => ⟨.cfgout (.ofBits (lineField w)) (flagField w), ?_, rfl⟩,
    fun h => ⟨.cfgin (.ofBits (lineField w)), ?_, rfl⟩,
    fun h => ⟨.setlvl (.ofBits (lineField w)) (flagField w), ?_, rfl⟩,
    fun h => ⟨.armedge (.ofBits (lineField w)) (.ofBit (flagField w)), ?_, rfl⟩,
    fun h => ⟨.waitedge (.ofBits (lineField w)) (flagField w), ?_, rfl⟩, fun h => ⟨.send (immField w), ?_, rfl⟩,
    fun h => ⟨.hshake, ?_, rfl⟩, fun h => ⟨.quant (immField w), ?_, rfl⟩, fun h => ⟨.xmit (immField w), ?_, rfl⟩,
    fun h => ⟨.wrcfg (.ofBits (lineField w)) (immField w), ?_, rfl⟩,
    fun h => ⟨.rdcfg (.ofBits (lineField w)), ?_, rfl⟩, fun h => ⟨.release (.ofBits (lineField w)), ?_, rfl⟩, nofun⟩
  all_goals simpa [encode, packWord_eq_iff] using h

theorem whenSbz_ne_reservedOpcode (b : Bool) (i : Instr) : whenSbz b i ≠ .error .reservedOpcode := by
  cases b <;> simp [whenSbz]

theorem decode_eq_reservedOpcode_iff (w : Word) : decode w = .error .reservedOpcode ↔ 13 ≤ (opField w).toNat := by
  dsimp only [decode]
  split
  case h_14 =>
    refine iff_of_true rfl ?_
    simp only [imp_false] at *
    omega
  all_goals
    next hop => simp [whenSbz_ne_reservedOpcode, hop]

/-- Settles O3: the words of commands are the words that match a row, and the reserved opcodes are 13 to 15. -/
theorem decodeFollowsTheBitPatterns : Obligations.DecodeFollowsTheBitPatterns := by
  intro w
  have hmatch : ∀ i, decode w = .ok i → ∃ r ∈ opcodeRows, r.mnemonic = i.mnemonic ∧ w &&& r.mask = r.pattern := by
    intro i hi
    rw [← encode_of_decode hi]
    exact encode_matches_row i
  have hdecode : ∀ r ∈ opcodeRows, w &&& r.mask = r.pattern → ∃ i, decode w = .ok i ∧ i.mnemonic = r.mnemonic := by
    intro r hr h
    simpa only [decode_eq_ok_iff] using exists_encode_of_matches_row hr h
  have hreserved := decode_eq_reservedOpcode_iff w
  refine ⟨hmatch, hdecode, ?_, hreserved⟩
  cases hd : decode w with
  | ok i =>
    obtain ⟨r, hr, -, hm⟩ := hmatch i hd
    exact iff_of_false nofun fun ⟨_, hno⟩ => hno r hr hm
  | error e =>
    have hno : ∀ r ∈ opcodeRows, w &&& r.mask ≠ r.pattern := by
      intro r hr hm
      obtain ⟨i, hi, -⟩ := hdecode r hr hm
      cases hd.symm.trans hi
    cases e with
    | reservedOpcode =>
      have := hreserved.mp hd
      exact iff_of_false nofun fun ⟨hop, _⟩ => by omega
    | nonzeroSbz =>
      have hop : ¬ 13 ≤ (opField w).toNat := fun h => nomatch hd.symm.trans (hreserved.mpr h)
      exact iff_of_true rfl ⟨by omega, hno⟩

/-- Settles O4: each word is the word of the command it is said to decode to. -/
theorem specWordsDecode : Obligations.SpecWordsDecode := by
  unfold Obligations.SpecWordsDecode
  simp only [decode_eq_ok_iff]
  decide

end Sys2Proof
end

section
/-! The words and commands answered ILLEGAL_COMMAND (30_encoding.md R64 to R66, 60_exceptions.md R128, R129). -/

namespace Sys2Proof.Machine

/-- ILLEGAL_COMMAND is a response and nothing else. -/
theorem raise_illegalCommand (s : State) :
    ∃ t, raise .illegalCommand s = .next t ∧ s.onlyAnswered t .illegalCommand 0 ∧ s.extKept t :=
  ⟨_, raise_nonfatal rfl s, respond_onlyAnswered s .illegalCommand 0, rfl⟩

/-- Each value constraint of 30_encoding.md R65 (a) to (e) is its command's first check. -/
theorem exec_of_not_wellFormed {i : Instr} (h : i.wellFormed = false) (s : State) :
    exec i s = raise .illegalCommand s := by
  cases i with
  | cfgout L f =>
    have hLf : L = .interrupt ∧ f = false := by simpa [Instr.wellFormed] using h
    exact if_pos hLf
  | send v =>
    have hv : 5 < v.toNat := by simpa [Instr.wellFormed] using h
    exact if_pos hv
  | wrcfg r v =>
    by_cases hr : r.num ≥ 3
    · exact if_pos hr
    · have hv : (r = .settle ∨ r = .intpulse) ∧ unsignedOf v = 0 := by
        cases r <;> simp_all [Instr.wellFormed, RegIndex.num, unsignedOf]
      exact (if_neg hr).trans (if_pos hv)
  | rdcfg r =>
    have hr : r = .reserved7 := by simpa [Instr.wellFormed] using h
    exact if_pos hr
  | nop | cfgin _ | setlvl _ _ | armedge _ _ | waitedge _ _ | hshake | quant _ | xmit _ | release _ => cases h

/-- Settles O35: the command raises ILLEGAL_COMMAND, which is a response and nothing else. -/
theorem illegalValuesAreAnswered : Obligations.IllegalValuesAreAnswered := by
  intro i s h
  rw [exec_of_not_wellFormed h]
  exact raise_illegalCommand s

/-- Settles O12: the word is not run, and the external register's transition beside the answer is no part of the frame. -/
theorem illegalWordsAreAnswered : Obligations.IllegalWordsAreAnswered := by
  intro s e hs hq hv hd
  obtain ⟨hr, hl⟩ := quietAt_zero_lineFault hq
  obtain ⟨t, ht, ha, -⟩ := raise_illegalCommand s
  refine ⟨{ t with ext := nextExt s t }, step_of_blockCycle ?_, ha⟩
  rw [blockCycle_accept hs hr hl hv, runCommand, hd]
  exact ht

/-- Settles O38: the line passes WAITEDGE's checks of the claim, and fails the one of arming. -/
theorem unarmedWaitsAreAnswered : Obligations.UnarmedWaitsAreAnswered := by
  intro L f s hrole hclaimed hdir harmed
  have hin : (s.line L).isInput = true := (Line.isInput_iff _).mpr ⟨hclaimed, hdir⟩
  have he : exec (.waitedge L f) s = raise .illegalCommand s := by
    simp [exec, execWaitedge, hrole, hin, harmed]
  rw [he]
  exact raise_illegalCommand s

end Sys2Proof.Machine
end

section
/-! The assembler (30_encoding.md R69, R70): what each mnemonic reads its operands as, and so which lines it takes. -/

namespace Sys2Proof.Machine

/-! ## Operands -/

/-- One word of a line. -/
def IsWord (a : String) : Prop := Clean a.toList ∧ a.toList ≠ []

theorem isWord_of_check {a : String}
    (h : ((a.toList.all fun c => !decide (c = ' ' ∨ c = ',' ∨ c = '\t')) && !a.toList.isEmpty) = true) : IsWord a := by
  obtain ⟨hall, hne⟩ := (Bool.and_eq_true ..).mp h
  exact ⟨clean_of_all hall, by simpa using hne⟩

theorem numberText_isWord {t : String} {n : Nat} (h : NumberText t n) : IsWord t := by
  obtain ⟨-, hclean, c, cs, he, -⟩ := numberText_read h
  exact ⟨hclean, by rw [he]; exact List.cons_ne_nil c cs⟩

theorem sampleText_isWord {t : String} {z : Int} (h : SampleText t z) : IsWord t := by
  obtain ⟨-, hclean, hne, -⟩ := sampleText_read h
  exact ⟨hclean, hne⟩

theorem numberText_parseValue {t : String} {n : Nat} (h : NumberText t n) :
    parseValue t.toList = if n < 2 ^ 24 then some (BitVec.ofNat 24 n) else none := by
  obtain ⟨hn, -⟩ := numberText_read h
  simp only [parseValue, hn]

theorem numberText_parseSendLevel {t : String} {n : Nat} (h : NumberText t n) :
    parseSendLevel t.toList = if n ≤ 5 then some (BitVec.ofNat 24 n) else none := by
  obtain ⟨hn, -⟩ := numberText_read h
  simp only [parseSendLevel, hn]

theorem sampleText_parseSample {t : String} {z : Int} (h : SampleText t z) :
    parseSample t.toList = if -(2 ^ 23) ≤ z ∧ z ≤ 2 ^ 23 - 1 then some (BitVec.ofInt 24 z) else none := by
  obtain ⟨hz, -⟩ := sampleText_read h
  simp only [parseSample, hz]

theorem parseSample_eq_none {t : String} {z : Int} (h : SampleText t z) (hz : z < -(2 ^ 23) ∨ 2 ^ 23 - 1 < z) :
    parseSample t.toList = none := by
  rw [sampleText_parseSample h, if_neg (by omega)]

/-- A sample is a number without sign, or is read as none. -/
theorem parseSendLevel_eq_none {t : String} {z : Int} (h : SampleText t z) (hz : z < 0 ∨ 5 < z) :
    parseSendLevel t.toList = none := by
  obtain ⟨-, -, -, ⟨n, rfl, hn⟩ | hn⟩ := sampleText_read h
  · simp only [parseSendLevel, hn]
    exact if_neg (by omega)
  · simp only [parseSendLevel, hn]

theorem parseValue_eq_none {t : String} {z : Int} (h : SampleText t z) (hz : z < 0 ∨ 2 ^ 24 - 1 < z) :
    parseValue t.toList = none := by
  obtain ⟨-, -, -, ⟨n, rfl, hn⟩ | hn⟩ := sampleText_read h
  · simp only [parseValue, hn]
    exact if_neg (by omega)
  · simp only [parseValue, hn]

/-! ## Mnemonics -/

/-- `m` takes one operand, read by `p`, and stands for the command `c` of it. -/
structure Unary {α : Type} (m : String) (p : List Char → Option α) (c : α → Instr) : Prop where
  word : IsWord m
  parse : ∀ a, parseCommand [m.toList, a] = (p a).map fun x => [c x]

/-- `m` takes two operands, read by `p` and `q`, and stands for the command `c` of them. -/
structure Binary {α β : Type} (m : String) (p : List Char → Option α) (q : List Char → Option β) (c : α → β → Instr) :
    Prop where
  word : IsWord m
  parse : ∀ a b, parseCommand [m.toList, a, b] = (p a).bind fun x => (q b).map fun y => [c x y]

theorem unary_cfgin : Unary "cfgin" parseLine .cfgin := ⟨isWord_of_check (by decide), fun _ => rfl⟩

theorem unary_waitedge : Unary "waitedge" parseLine (.waitedge · false) := ⟨isWord_of_check (by decide), fun _ => rfl⟩

theorem unary_send : Unary "send" parseSendLevel .send := ⟨isWord_of_check (by decide), fun _ => rfl⟩

theorem unary_quant : Unary "quant" parseSample .quant := ⟨isWord_of_check (by decide), fun _ => rfl⟩

theorem unary_xmit : Unary "xmit" parseSample .xmit := ⟨isWord_of_check (by decide), fun _ => rfl⟩

theorem unary_rdcfg : Unary "rdcfg" parseReg .rdcfg := ⟨isWord_of_check (by decide), fun _ => rfl⟩

theorem unary_release : Unary "release" parseLine .release := ⟨isWord_of_check (by decide), fun _ => rfl⟩

theorem unary_settimeout : Unary "settimeout" parseValue (.wrcfg .timeout) :=
  ⟨isWord_of_check (by decide), fun _ => rfl⟩

theorem binary_cfgout : Binary "cfgout" parseLine parseLevel .cfgout := ⟨isWord_of_check (by decide), fun _ _ => rfl⟩

theorem binary_setlvl : Binary "setlvl" parseLine parseLevel .setlvl := ⟨isWord_of_check (by decide), fun _ _ => rfl⟩

theorem binary_armedge : Binary "armedge" parseLine parseEdge .armedge := ⟨isWord_of_check (by decide), fun _ _ => rfl⟩

theorem binary_wrcfg : Binary "wrcfg" parseReg parseValue .wrcfg := ⟨isWord_of_check (by decide), fun _ _ => rfl⟩

/-- The word `timeout`, an operand of WAITEDGE alone. -/
def parseTimeoutWord (b : List Char) : Option Unit := if b = "timeout".toList then some () else none

theorem binary_waitedge : Binary "waitedge" parseLine parseTimeoutWord fun L _ => .waitedge L true := by
  refine ⟨unary_waitedge.word, fun a b => ?_⟩
  change (if "waitedge".toList = "waitedge".toList ∧ b = "timeout".toList then
    (parseLine a).map fun L => [Instr.waitedge L true] else none) = _
  by_cases hb : b = "timeout".toList
  · rw [if_pos ⟨rfl, hb⟩, parseTimeoutWord, if_pos hb, Option.map_eq_bind]
    rfl
  · rw [if_neg fun h => hb h.2, parseTimeoutWord, if_neg hb]
    cases parseLine a <;> rfl

section
variable {α β : Type} {m a b : String} {p : List Char → Option α} {q : List Char → Option β} {x : α} {y : β}

theorem Unary.assemble_eq {c : α → Instr} (h : Unary m p c) (ha : IsWord a) :
    assemble (m ++ " " ++ a) = (p a.toList).map fun x => [encode (c x)] := by
  obtain ⟨⟨hm, hm'⟩, hparse⟩ := h
  obtain ⟨ha, ha'⟩ := ha
  rw [assemble_one hm hm' ha ha', hparse, Option.map_map]
  rfl

theorem Unary.takes {c : α → Instr} (h : Unary m p c) (hx : p a.toList = some x ∧ IsWord a) :
    assemble (m ++ " " ++ a) = some [encode (c x)] := by
  obtain ⟨hx, ha⟩ := hx
  rw [h.assemble_eq ha, hx]
  rfl

theorem Unary.refuses {c : α → Instr} (h : Unary m p c) (ha : IsWord a) (hx : p a.toList = none) :
    assemble (m ++ " " ++ a) = none := by
  rw [h.assemble_eq ha, hx]
  rfl

theorem Binary.assemble_eq {c : α → β → Instr} (h : Binary m p q c) (ha : IsWord a) (hb : IsWord b) :
    assemble (m ++ " " ++ a ++ ", " ++ b) =
      (p a.toList).bind fun x => (q b.toList).map fun y => [encode (c x y)] := by
  obtain ⟨⟨hm, hm'⟩, hparse⟩ := h
  obtain ⟨ha, ha'⟩ := ha
  obtain ⟨hb, hb'⟩ := hb
  rw [assemble_two hm hm' ha ha' hb hb', hparse]
  cases p a.toList <;> cases q b.toList <;> rfl

theorem Binary.takes {c : α → β → Instr} (h : Binary m p q c) (hx : p a.toList = some x ∧ IsWord a)
    (hy : q b.toList = some y ∧ IsWord b) : assemble (m ++ " " ++ a ++ ", " ++ b) = some [encode (c x y)] := by
  obtain ⟨hx, ha⟩ := hx
  obtain ⟨hy, hb⟩ := hy
  rw [h.assemble_eq ha hb, hx, hy]
  rfl

theorem Binary.refuses {c : α → β → Instr} (h : Binary m p q c) (hx : p a.toList = some x ∧ IsWord a) (hb : IsWord b)
    (hy : q b.toList = none) : assemble (m ++ " " ++ a ++ ", " ++ b) = none := by
  obtain ⟨hx, ha⟩ := hx
  rw [h.assemble_eq ha hb, hx, hy]
  rfl

/-- A first operand that is not read is refused whatever text follows it. -/
theorem Binary.refuses_first {c : α → β → Instr} (h : Binary m p q c) (ha : IsWord a) (hx : p a.toList = none)
    (hone : parseCommand [m.toList, a.toList] = none) (b : String) : assemble (m ++ " " ++ a ++ ", " ++ b) = none := by
  obtain ⟨⟨hm, hm'⟩, hparse⟩ := h
  obtain ⟨ha, ha'⟩ := ha
  have hline : (m ++ " " ++ a ++ ", " ++ b).toList = m.toList ++ ' ' :: (a.toList ++ ',' :: ' ' :: b.toList) := by
    simp
  have hnone : ∀ rest, parseCommand (m.toList :: a.toList :: rest) = none
    | [] => hone
    | [b] => by rw [hparse, hx]; rfl
    | _ :: _ :: _ => rfl
  rw [assemble, hline, splitWords_blank hm hm', splitWords_comma ha ha', hnone]
  rfl

end

/-! ## The lines that are taken -/

/-- Every row's line gives the word of its command, which is the row's word. -/
theorem assemble_of_asmRow {line : String} {w : Word} (h : AsmRow line w) : assemble line = some [w] := by
  cases h with
  | nop => rfl
  | cfgout hL hf => exact binary_cfgout.takes (lineText_read hL) (levelText_read hf)
  | cfgin hL => exact unary_cfgin.takes (lineText_read hL)
  | setlvl hL hf => exact binary_setlvl.takes (lineText_read hL) (levelText_read hf)
  | @armedge _ _ _ e hL he =>
    have hbit : (e == .rising) = e.bit := by cases e <;> rfl
    rw [hbit]
    exact binary_armedge.takes (lineText_read hL) (edgeText_read he)
  | waitedge hL => exact unary_waitedge.takes (lineText_read hL)
  | waitedgeTimeout hL =>
    have hw : IsWord "timeout" := isWord_of_check (by decide)
    have ht := binary_waitedge.takes (b := "timeout") (lineText_read hL) ⟨rfl, hw⟩
    rw [String.append_assoc] at ht
    exact ht
  | send ht hn =>
    exact unary_send.takes ⟨by rw [numberText_parseSendLevel ht, if_pos hn], numberText_isWord ht⟩
  | hshake => rfl
  | quant ht hlo hhi =>
    exact unary_quant.takes ⟨by rw [sampleText_parseSample ht, if_pos ⟨hlo, hhi⟩], sampleText_isWord ht⟩
  | xmit ht hlo hhi =>
    exact unary_xmit.takes ⟨by rw [sampleText_parseSample ht, if_pos ⟨hlo, hhi⟩], sampleText_isWord ht⟩
  | wrcfg hr ht hn =>
    exact binary_wrcfg.takes (regText_read hr) ⟨by rw [numberText_parseValue ht, if_pos hn], numberText_isWord ht⟩
  | rdcfg hr => exact unary_rdcfg.takes (regText_read hr)
  | release hL => exact unary_release.takes (lineText_read hL)

/-- The word of `settimeout <n>` as the spec writes it (30_encoding.md R70). -/
theorem encode_wrcfg_timeout {n : Nat} (hn : n < 2 ^ 24) :
    encode (.wrcfg .timeout (BitVec.ofNat 24 n)) = 0xA4000000 + BitVec.ofNat 32 n := by
  apply BitVec.eq_of_toNat_eq
  rw [encode, packWord_toNat, BitVec.toNat_add, BitVec.toNat_ofNat, BitVec.toNat_ofNat]
  change 10 * 2 ^ 28 + 2 * 2 ^ 25 + 0 * 2 ^ 24 + n % 2 ^ 24 = (2751463424 + n % 2 ^ 32) % 2 ^ 32
  omega

theorem assemble_settimeout {t : String} {n : Nat} (h : NumberText t n) (hn : n < 2 ^ 24) :
    assemble ("settimeout " ++ t) = some [0xA4000000 + BitVec.ofNat 32 n] := by
  rw [← encode_wrcfg_timeout hn]
  exact unary_settimeout.takes ⟨by rw [numberText_parseValue h, if_pos hn], numberText_isWord h⟩

/-- The words of a line that is taken are words of commands. -/
theorem decode_of_assemble {line : String} {ws : List Word} (h : assemble line = some ws) {w : Word} (hw : w ∈ ws) :
    ∃ i, decode w = .ok i := by
  obtain ⟨is, -, rfl⟩ := Option.map_eq_some_iff.mp h
  obtain ⟨i, -, rfl⟩ := List.mem_map.mp hw
  exact ⟨i, decode_encode i⟩

/-! ## The lines that are refused -/

/-- QUANT and XMIT refuse a sample, SEND a level, and settimeout and WRCFG a value that does not fit. -/
theorem sampleText_refused {t : String} {z : Int} (h : SampleText t z) :
    (z < -(2 ^ 23) ∨ 2 ^ 23 - 1 < z → assemble ("quant " ++ t) = none ∧ assemble ("xmit " ++ t) = none) ∧
    (z < 0 ∨ 5 < z → assemble ("send " ++ t) = none) ∧
    (z < 0 ∨ 2 ^ 24 - 1 < z → assemble ("settimeout " ++ t) = none ∧
      ∀ a r, RegText a r → assemble ("wrcfg " ++ a ++ ", " ++ t) = none) := by
  have hw := sampleText_isWord h
  refine ⟨fun hz => ?_, fun hz => ?_, fun hz => ?_⟩
  · have hn := parseSample_eq_none h hz
    exact ⟨unary_quant.refuses hw hn, unary_xmit.refuses hw hn⟩
  · exact unary_send.refuses hw (parseSendLevel_eq_none h hz)
  · have hn := parseValue_eq_none h hz
    exact ⟨unary_settimeout.refuses hw hn, fun a r hr => binary_wrcfg.refuses (regText_read hr) hw hn⟩

/-- Every mnemonic with a line as its first operand refuses a number above 7. -/
theorem lineNumber_refused {t : String} {n : Nat} (h : NumberText t n) (hn : 7 < n) :
    (∀ m ∈ ["cfgin ", "waitedge ", "release "], assemble (m ++ t) = none) ∧
    ∀ m ∈ ["cfgout ", "setlvl ", "armedge ", "waitedge "], ∀ b, assemble (m ++ t ++ ", " ++ b) = none := by
  have hw := numberText_isWord h
  have hnone : parseLine t.toList = none := by rw [parseLine_number h, if_neg (by omega)]
  simp only [List.forall_mem_cons]
  refine ⟨⟨?_, ?_, ?_, nofun⟩, ?_, ?_, ?_, ?_, nofun⟩
  · exact unary_cfgin.refuses hw hnone
  · exact unary_waitedge.refuses hw hnone
  · exact unary_release.refuses hw hnone
  · exact binary_cfgout.refuses_first hw hnone rfl
  · exact binary_setlvl.refuses_first hw hnone rfl
  · exact binary_armedge.refuses_first hw hnone rfl
  · exact binary_waitedge.refuses_first hw hnone (by rw [unary_waitedge.parse, hnone]; rfl)

/-- RDCFG and WRCFG refuse a register number above 6. -/
theorem regNumber_refused {t : String} {n : Nat} (h : NumberText t n) (hn : 6 < n) :
    assemble ("rdcfg " ++ t) = none ∧ ∀ b, assemble ("wrcfg " ++ t ++ ", " ++ b) = none := by
  have hw := numberText_isWord h
  have hnone : parseReg t.toList = none := by rw [parseReg_number h, if_neg (by omega)]
  exact ⟨unary_rdcfg.refuses hw hnone, binary_wrcfg.refuses_first hw hnone rfl⟩

/-- Settles O5: the rows, the pseudo-instructions, what a taken line decodes to, and the operands refused. -/
theorem assemblerEmitsCommands : Obligations.AssemblerEmitsCommands :=
  ⟨fun _ _ => assemble_of_asmRow, by decide, by decide, by decide, fun _ _ => assemble_settimeout,
    fun _ _ h _ => decode_of_assemble h, fun _ _ => sampleText_refused,
    fun _ _ h => ⟨lineNumber_refused h, regNumber_refused h⟩⟩

end Sys2Proof.Machine
end

section
/-! The signal line commands (40_signal_line.md R73 to R80): each rewrites its own line, and the rest is as the always-running
updates leave it. -/

namespace Sys2Proof.Machine

variable {s : State} {L : LineId}

/-- What CFGOUT, CFGIN, SETLVL, ARMEDGE and RELEASE leave: their line rewritten, and OK answered. -/
def State.lineWritten (s : State) (L : LineId) (f : Line → Line) : State := (s.tick.updLine L f).respond .ok 0

/-- Everything but the lines and the response is as before. -/
def State.restKept (s t : State) : Prop :=
  s.regsKept t ∧ s.countersKept t ∧ s.workKept t ∧ s.faultKept t ∧ s.inputsAdvanced t ∧ s.extKept t

@[simp] theorem lineWritten_line (s : State) (L : LineId) (f : Line → Line) :
    (s.lineWritten L f).line L = f ((s.line L).detect.sample (s.padLevel L)) := by
  simp [State.lineWritten]

theorem lineWritten_answered (s : State) (L : LineId) (f : Line → Line) : (s.lineWritten L f).answered .ok 0 :=
  ⟨rfl, rfl, rfl, rfl, rfl⟩

theorem lineWritten_lineKept (s : State) (L : LineId) (f : Line → Line) (M : LineId) (h : M ≠ L) :
    s.lineKept (s.lineWritten L f) M := lineKept_updLine f h

theorem lineWritten_lineSampled (s : State) (L : LineId) {f : Line → Line}
    (hf : ∀ l, (f l).s1 = l.s1 ∧ (f l).s2 = l.s2 ∧ (f l).ref = l.ref) : s.lineSampled (s.lineWritten L f) L :=
  lineSampled_updLine L (tick_lineSampled s L) hf

theorem lineWritten_restKept (s : State) (L : LineId) (f : Line → Line) : s.restKept (s.lineWritten L f) :=
  ⟨⟨rfl, rfl, rfl⟩, ⟨rfl, rfl⟩, ⟨rfl, rfl, rfl, rfl, rfl, rfl, rfl⟩, ⟨rfl, rfl⟩, ⟨rfl, rfl⟩, rfl⟩

/-! ## The commands whose checks pass -/

theorem exec_cfgout {f : Level} (hf : ¬(L = .interrupt ∧ f = false)) (hL : L ≠ .ack) (hc : (s.line L).claimed = false) :
    exec (.cfgout L f) s = .next (s.lineWritten L (.claimAs .output f)) := by
  have hin : roleIsIn L = false := beq_eq_false_iff_ne.mpr hL
  exact (if_neg hf).trans ((if_neg (by simp [hc])).trans (if_neg (by simp [hin])))

theorem exec_cfgin (hL : roleIsOut L = false) (hc : (s.line L).claimed = false) :
    exec (.cfgin L) s = .next (s.lineWritten L (.claimAs .input false)) :=
  (if_neg (by simp [hc])).trans (if_neg (by simp [hL]))

theorem exec_setlvl {f : Level} (hL : isRole L = false) (ho : (s.line L).isOutput = true) :
    exec (.setlvl L f) s = .next (s.lineWritten L fun l => { l with lvl := f }) :=
  (if_neg (by simp [hL])).trans (if_neg (by simp [ho]))

theorem exec_armedge {e : Edge} (hL : isRole L = false) (hi : (s.line L).isInput = true) :
    exec (.armedge L e) s = .next (s.lineWritten L (.arm e)) :=
  (if_neg (by simp [hL])).trans (if_neg (by simp [hi]))

theorem exec_waitedge {f : Bool} (hL : isRole L = false) (hi : (s.line L).isInput = true)
    (ha : (s.line L).armed = true) :
    exec (.waitedge L f) s =
      .next { s.tick with op := .wait, wline := L, wcnt := 0, wto := f && s.timeout != 0, st := .wAwait } :=
  (if_neg (by simp [hL])).trans ((if_neg (by simp [hi])).trans (if_neg (by simp [ha])))

/-! ## What they leave -/

/-- Settles O23: the claim is written over an unclaimed line, whose pad is driven from the next cycle. -/
theorem cfgoutClaimsAnOutput : Obligations.CfgoutClaimsAnOutput := by
  intro L f s hf hack hc
  refine ⟨_, exec_cfgout hf hack hc, lineWritten_answered .., ?_⟩
  rw [State.padOe, State.padOut, lineWritten_line]
  exact ⟨rfl, rfl, rfl, rfl, rfl, rfl, lineWritten_lineSampled s L fun _ => ⟨rfl, rfl, rfl⟩,
    lineWritten_lineKept s L _, rfl, rfl, lineWritten_restKept ..⟩

/-- Settles O24: the claim is written over an unclaimed line, whose pad is not driven. -/
theorem cfginClaimsAnInput : Obligations.CfginClaimsAnInput := by
  intro L s hL hc
  have hrole : roleIsOut L = false := by rcases hL with rfl | rfl | rfl | rfl <;> rfl
  refine ⟨_, exec_cfgin hrole hc, lineWritten_answered .., ?_⟩
  rw [State.padOe, lineWritten_line]
  exact ⟨rfl, rfl, rfl, rfl, rfl, rfl, lineWritten_lineSampled s L fun _ => ⟨rfl, rfl, rfl⟩,
    lineWritten_lineKept s L _, rfl, lineWritten_restKept ..⟩

/-- Settles O25: the level alone is written. -/
theorem setlvlDrivesALine : Obligations.SetlvlDrivesALine := by
  intro L f s hrole hc hd
  have ho : (s.line L).isOutput = true := (Line.isOutput_iff _).mpr ⟨hc, hd⟩
  refine ⟨_, exec_setlvl hrole ho, lineWritten_answered .., ?_⟩
  rw [State.lineDriven, State.padOut, lineWritten_line]
  exact ⟨⟨rfl, rfl, rfl, rfl, rfl, rfl, lineWritten_lineSampled s L fun _ => ⟨rfl, rfl, rfl⟩⟩, rfl,
    lineWritten_lineKept s L _, lineWritten_restKept ..⟩

/-- Settles O26: the write of `seen` is over the detector's, so an edge of this cycle is discarded too. -/
theorem armedgeArmsALine : Obligations.ArmedgeArmsALine := by
  intro L e s hrole hc hd
  have hi : (s.line L).isInput = true := (Line.isInput_iff _).mpr ⟨hc, hd⟩
  refine ⟨_, exec_armedge hrole hi, lineWritten_answered .., ?_⟩
  rw [lineWritten_line]
  exact ⟨hc, hd, rfl, rfl, rfl, rfl, lineWritten_lineSampled s L fun _ => ⟨rfl, rfl, rfl⟩,
    lineWritten_lineKept s L _, lineWritten_restKept ..⟩

/-- Settles O27: only the working registers of the wait are written over the always-running updates. -/
theorem waitedgeStartsAWait : Obligations.WaitedgeStartsAWait := by
  intro L f s hrole hc hd ha
  have hi : (s.line L).isInput = true := (Line.isInput_iff _).mpr ⟨hc, hd⟩
  have hbound : (f && s.timeout != 0) = true ↔ f = true ∧ s.timeout ≠ 0 := by simp
  exact ⟨_, exec_waitedge hrole hi ha, rfl, rfl, rfl, rfl, hbound, ⟨rfl, rfl, rfl, rfl⟩, tick_lineKept s, rfl, rfl, rfl,
    ⟨rfl, rfl, rfl⟩, ⟨rfl, rfl⟩, ⟨rfl, rfl⟩, ⟨rfl, rfl⟩, rfl⟩

/-- Settles O34: RELEASE makes no check, and its line's fields are those of an unclaimed line. -/
theorem releaseFreesALine : Obligations.ReleaseFreesALine := by
  intro L s
  refine ⟨s.lineWritten L .free, rfl, lineWritten_answered .., ?_⟩
  rw [State.padOe, lineWritten_line]
  exact ⟨rfl, rfl, rfl, rfl, rfl, rfl, lineWritten_lineSampled s L fun _ => ⟨rfl, rfl, rfl⟩, rfl,
    lineWritten_lineKept s L _, lineWritten_restKept ..⟩

end Sys2Proof.Machine
end

section
/-! A claimed line keeps its direction (40_signal_line.md R71): only CFGOUT, CFGIN, RELEASE and reset write one, the first two
refuse a line that is claimed already, and the others leave it unclaimed. -/

namespace Sys2Proof.Machine

/-- Line `L` has its direction of before. -/
def State.dirKept (s t : State) (L : LineId) : Prop := (t.line L).dir = (s.line L).dir

/-- Line `L` has its direction of before where it is claimed before and after (40_signal_line.md R71). -/
def State.dirFixed (s t : State) (L : LineId) : Prop :=
  (s.line L).claimed = true → (t.line L).claimed = true → s.dirKept t L

/-- `i` claims line `L`. -/
def Claims (i : Instr) (L : LineId) : Prop := (∃ f, i = .cfgout L f) ∨ i = .cfgin L

variable {s t : State} {L : LineId}

theorem dirFixed_of_kept (h : s.dirKept t L) : s.dirFixed t L := fun _ _ => h

theorem dirFixed_of_unclaimed (h : (t.line L).claimed = false) : s.dirFixed t L :=
  fun _ hc => absurd (hc.symm.trans h) nofun

theorem tick_dirKept (s : State) (L : LineId) : s.dirKept s.tick L := by simp [State.dirKept]

/-- A write of a line's other fields, or of another line, keeps this line's direction. -/
theorem dirKept_updLine {M : LineId} {f : Line → Line} (h : s.dirKept t L) (hf : L = M → ∀ l, (f l).dir = l.dir) :
    s.dirKept (t.updLine M f) L := by
  by_cases hL : L = M
  · subst hL
    simpa [State.dirKept, hf rfl] using h
  · simpa [State.dirKept, hL] using h

theorem dirKept_drive (M : LineId) (v : Level) (h : s.dirKept t L) : s.dirKept (t.drive M v) L :=
  dirKept_updLine h fun _ _ => rfl

theorem dirKept_disarm (M : LineId) (h : s.dirKept t L) : s.dirKept (t.disarm M) L :=
  dirKept_updLine h fun _ _ => rfl

theorem FsmEffect.dirKept (h : FsmEffect s t) (L : LineId) : s.dirKept t L := by
  have ht := tick_dirKept s L
  cases h with
  | idle _ => exact ht
  | raiseClock _ => exact dirKept_drive _ _ ht
  | holdLink _ _ => exact ht
  | lowerClock _ => exact dirKept_drive _ _ ht
  | nextBit _ _ => exact dirKept_drive _ _ ht
  | raiseLatch _ _ => exact dirKept_drive _ _ ht
  | sendDone _ _ => exact dirKept_drive _ _ ht
  | latchDone _ _ => exact dirKept_drive _ _ ht
  | startPulse _ => exact dirKept_drive _ _ ht
  | holdPulse _ _ => exact ht
  | pulseDone _ => exact dirKept_updLine (f := .arm .falling) (dirKept_drive _ _ ht) fun _ _ => rfl
  | waitAnswered c _ => exact dirKept_disarm _ ht
  | handshakeDone _ => exact dirKept_disarm _ ht
  | waitCounts _ _ _ => exact ht
  | waitGoesOn _ _ => exact ht

/-- A command that does not claim the line writes its direction only to release it. -/
theorem CommandEffect.dirFixed {i : Instr} (h : CommandEffect s i t) (hi : ¬Claims i L) : s.dirFixed t L := by
  have ht := tick_dirKept s L
  cases h with
  | fatal _ => exact dirFixed_of_kept (by simp [State.dirKept])
  | answer c d => exact dirFixed_of_kept ht
  | @cfgout M f _ _ =>
    have hL : L ≠ M := fun e => hi (.inl ⟨f, by rw [e]⟩)
    exact dirFixed_of_kept (dirKept_updLine (f := .claimAs .output f) ht fun e => absurd e hL)
  | @cfgin M _ =>
    have hL : L ≠ M := fun e => hi (.inr (by rw [e]))
    exact dirFixed_of_kept (dirKept_updLine (f := .claimAs .input false) ht fun e => absurd e hL)
  | setlvl _ _ => exact dirFixed_of_kept (dirKept_drive _ _ ht)
  | @armedge _ e _ _ => exact dirFixed_of_kept (dirKept_updLine (f := .arm e) ht fun _ _ => rfl)
  | waitedge _ _ => exact dirFixed_of_kept ht
  | send _ _ => exact dirFixed_of_kept (dirKept_drive _ _ ht)
  | hshake _ => exact dirFixed_of_kept (dirKept_drive _ _ ht)
  | xmit _ _ => exact dirFixed_of_kept (dirKept_drive _ _ ht)
  | wrcfg _ => exact dirFixed_of_kept (by simp [State.dirKept])
  | @release M =>
    by_cases hL : L = M
    · exact dirFixed_of_unclaimed (by simp [hL, Line.free])
    · exact dirFixed_of_kept (dirKept_updLine (f := .free) ht fun e => absurd e hL)

/-- A line that is claimed already is not claimed anew (40_signal_line.md R73, R74). -/
theorem exec_of_claims {i : Instr} (hi : Claims i L) (hc : (s.line L).claimed = true) : ∃ c, exec i s = raise c s := by
  obtain ⟨f, rfl⟩ | rfl := hi
  · by_cases hf : L = .interrupt ∧ f = false
    · exact ⟨_, if_pos hf⟩
    · exact ⟨_, (if_neg hf).trans (if_pos hc)⟩
  · exact ⟨_, if_pos hc⟩

theorem raise_dirFixed (c : Status) (s : State) (L : LineId) : Leads (s.dirFixed · L) (raise c s) :=
  fun t h => (CommandEffect.raise c s .nop t h).dirFixed (by simp [Claims])

theorem exec_dirFixed (i : Instr) (s : State) (L : LineId) : Leads (s.dirFixed · L) (exec i s) := by
  intro t h hc
  by_cases hi : Claims i L
  · obtain ⟨c, he⟩ := exec_of_claims hi hc
    exact raise_dirFixed c s L t (he ▸ h) hc
  · exact (exec_effect i s t h).dirFixed hi hc

theorem runCommand_dirFixed (w : Word) (s : State) (L : LineId) : Leads (s.dirFixed · L) (runCommand w s) := by
  unfold runCommand
  cases decode w with
  | ok i => exact exec_dirFixed i s L
  | error e => exact raise_dirFixed .illegalCommand s L

/-- The other cases of 60_exceptions.md R134 keep every direction, but for reset, which unclaims the lines. -/
theorem blockCycle_dirFixed (s : State) (L : LineId) : Leads (s.dirFixed · L) (blockCycle s) := by
  cases hr : s.inp.rst with
  | true => rw [blockCycle_reset hr]; exact .next (dirFixed_of_unclaimed (by simp [Line.reset]))
  | false =>
    by_cases hs : s.st = .fault
    · rw [blockCycle_hold hr hs]; exact .next (dirFixed_of_kept (by simp [State.dirKept]))
    · cases hl : s.lineFault with
      | true => rw [blockCycle_lineFault hr hs hl]; exact .next (dirFixed_of_kept (by simp [State.dirKept]))
      | false =>
        cases ha : s.accepts with
        | true =>
          obtain ⟨hv, hi, -⟩ := (accepts_iff s).mp ha
          rw [blockCycle_accept hi hr hl hv]
          exact runCommand_dirFixed s.inp.cmd s L
        | false =>
          rw [blockCycle_fsm hr hs hl ha]
          exact .next (dirFixed_of_kept ((fsmStep_effect hs).dirKept L))

/-- Settles O57: the external register's transition beside the block's writes no line. -/
theorem directionIsFixedWhileClaimed : Obligations.DirectionIsFixedWhileClaimed := by
  intro s t L h hs ht
  obtain ⟨u, hu, rfl⟩ := (step_eq_next_iff s t).mp h
  exact blockCycle_dirFixed s L u hu hs ht

end Sys2Proof.Machine
end

section
/-! The wait step (40_signal_line.md R78, 42_handshake.md R100): its equation in each case of its priority, what it leaves
unchanged in all of them, and so one cycle of a wait. -/

namespace Sys2Proof.Machine

variable {s : State}

theorem waitHit_iff (s : State) :
    s.waitHit = true ↔ (s.line s.wline).seen = true ∨ (s.line s.wline).edge = true := by
  simp [State.waitHit]

theorem waitHit_eq_false_iff (s : State) :
    s.waitHit = false ↔ (s.line s.wline).seen = false ∧ (s.line s.wline).edge = false := by
  simp [State.waitHit]

theorem waitExpires_iff (s : State) :
    s.waitExpires = true ↔ s.wto = true ∧ s.wcnt.toNat + 1 = s.timeout.toNat := by
  simp [State.waitExpires]

theorem waiting_iff (p : FsmState) : p.waiting = true ↔ p = .iAwait ∨ p = .wAwait := by
  cases p <;> simp [FsmState.waiting]

/-! ## The cases -/

theorem stepWait_hit (hh : s.waitHit = true) :
    stepWait s = if s.st = .wAwait then (s.tick.disarm s.wline).respond .ok 0
      else (s.tick.disarm s.wline).handshakeDone := by
  rw [stepWait, if_pos hh]

theorem stepWait_cancelled (hh : s.waitHit = false) (hc : s.inp.cancel = true) :
    stepWait s = (s.tick.disarm s.wline).respond .cancelled 0 := by
  rw [stepWait, if_neg (by simp [hh]), if_pos hc]

theorem stepWait_expired (hh : s.waitHit = false) (hc : s.inp.cancel = false) (hx : s.waitExpires = true) :
    stepWait s =
      (s.tick.disarm s.wline).respond (if s.st = .wAwait then .timeout else .peripheralUnresponsive) 0 := by
  rw [stepWait, if_neg (by simp [hh]), if_neg (by simp [hc]), if_pos hx]
  split <;> rfl

theorem stepWait_goesOn (hh : s.waitHit = false) (hc : s.inp.cancel = false) (hx : s.waitExpires = false) :
    stepWait s = { s.tick with wcnt := if s.wto then s.wcnt + 1 else s.wcnt } := by
  rw [stepWait, if_neg (by simp [hh]), if_neg (by simp [hc]), if_neg (by simp [hx])]
  split <;> rfl

/-! ## What it leaves unchanged -/

theorem tick_disarm_lineDisarmed (s : State) (L : LineId) : s.lineDisarmed (s.tick.disarm L) L := by
  simp [State.lineDisarmed, State.lineSampled]

/-- What every case of the wait step keeps. -/
def State.waitFrame (s t : State) : Prop :=
  (∀ M, M ≠ s.wline → s.lineKept t M) ∧ t.lastLevel = s.lastLevel ∧
  t.op = s.op ∧ t.pat = s.pat ∧ t.bitidx = s.bitidx ∧ t.cnt = s.cnt ∧ t.wline = s.wline ∧ t.wto = s.wto ∧
  s.regsKept t ∧ s.faultKept t ∧ s.inputsAdvanced t

theorem tick_waitFrame (s : State) : s.waitFrame s.tick :=
  ⟨fun M _ => tick_lineKept s M, rfl, rfl, rfl, rfl, rfl, rfl, rfl, ⟨rfl, rfl, rfl⟩, ⟨rfl, rfl⟩, ⟨rfl, rfl⟩⟩

theorem tick_disarm_waitFrame (s : State) : s.waitFrame (s.tick.disarm s.wline) :=
  ⟨fun _ hM => lineKept_updLine _ hM, rfl, rfl, rfl, rfl, rfl, rfl, rfl, ⟨rfl, rfl, rfl⟩, ⟨rfl, rfl⟩, ⟨rfl, rfl⟩⟩

/-- An end of the wait is written over the disarmed state, and its going on over the always-running updates. -/
theorem stepWait_waitFrame (s : State) : s.waitFrame (stepWait s) := by
  have hend := tick_disarm_waitFrame s
  have hgo := tick_waitFrame s
  obtain ⟨-, -, e⟩ | ⟨-, -, e⟩ | ⟨-, -, e⟩ | ⟨-, -, -, -, e⟩ | ⟨-, -, -, -, e⟩ | ⟨-, -, -, -, e⟩ | ⟨-, -, -, -, e⟩ :=
    stepWait_cases s <;> rw [e]
  · exact hend
  · exact hend
  · exact hend
  · exact hend
  · exact hend
  · exact hgo
  · exact hgo

/-! ## A cycle of a wait -/

theorem step_of_waiting (hw : s.st.waiting = true) (hq : s.quietAt 0) :
    step s = .next { stepWait s with ext := nextExt s (stepWait s) } := by
  obtain ⟨hr, hl⟩ := quietAt_zero_lineFault hq
  refine step_of_blockCycle ?_
  rcases (waiting_iff s.st).mp hw with hs | hs
  all_goals
    rw [blockCycle_fsm hr (by simp [hs]) hl (accepts_eq_false_of_busy (by simp [hs])), fsmStep, hs]

/-- Settles O47: each clause is a case of the wait step, and the frame is that of all of them. -/
theorem waitStepEndsOrGoesOn : Obligations.WaitStepEndsOrGoesOn := by
  intro s hw hq
  refine ⟨_, step_of_waiting hw hq, ?_⟩
  generalize nextExt s (stepWait s) = e
  have hdis := tick_disarm_lineDisarmed s s.wline
  refine ⟨fun hh => ?_, fun hseen hedge hc => ?_, fun hseen hedge hc hto hx => ?_, fun hseen hedge hc hx => ?_,
    stepWait_waitFrame s⟩
  · rw [stepWait_hit ((waitHit_iff s).mpr hh)]
    rcases (waiting_iff s.st).mp hw with hs | hs
    · rw [if_neg (by simp [hs])]
      refine ⟨fun hs' => absurd (hs.symm.trans hs') nofun, fun _ => ⟨rfl, fun hop => ?_, fun hop => ?_⟩, hdis, rfl⟩
      · exact ⟨rfl, rfl, if_pos hop, rfl, rfl⟩
      · exact ⟨rfl, rfl, if_neg hop, rfl, rfl⟩
    · rw [if_pos hs]
      exact ⟨fun _ => ⟨⟨rfl, rfl, rfl, rfl, rfl⟩, rfl⟩, fun hs' => absurd (hs.symm.trans hs') nofun, hdis, rfl⟩
  · rw [stepWait_cancelled ((waitHit_eq_false_iff s).mpr ⟨hseen, hedge⟩) hc]
    exact ⟨⟨rfl, rfl, rfl, rfl, rfl⟩, rfl, hdis, rfl⟩
  · rw [stepWait_expired ((waitHit_eq_false_iff s).mpr ⟨hseen, hedge⟩) hc ((waitExpires_iff s).mpr ⟨hto, hx⟩)]
    exact ⟨⟨rfl, rfl, rfl, rfl, rfl⟩, rfl, hdis, rfl⟩
  · rw [← waitExpires_iff, Bool.not_eq_true] at hx
    rw [stepWait_goesOn ((waitHit_eq_false_iff s).mpr ⟨hseen, hedge⟩) hc hx]
    exact ⟨rfl, ⟨rfl, rfl, rfl, rfl⟩, rfl, tick_lineKept .., rfl⟩

end Sys2Proof.Machine
end

section
/-! Waits over many cycles (40_signal_line.md R78, 42_handshake.md R101): the state a wait reaches while nothing ends it, and
how it ends at the first edge or at its bound. -/

namespace Sys2Proof.Machine

variable {s t u : State}

/-- In `t` the wait of `s` has gone on for `n` cycles: nothing was answered, the inputs have moved on by `n` cycles, and so
have the watched line's edges to come. -/
structure State.WaitedFor (s t : State) (n : Nat) : Prop where
  st : t.st = s.st
  op : t.op = s.op
  pat : t.pat = s.pat
  wline : t.wline = s.wline
  wto : t.wto = s.wto
  timeout : t.timeout = s.timeout
  bytecount : t.bytecount = s.bytecount
  lastStatus : t.lastStatus = s.lastStatus
  wcnt : s.wto = true → t.wcnt.toNat = s.wcnt.toNat + n
  seen : (t.line s.wline).seen = false
  edges : ∀ j, t.edgeAt s.wline j = s.edgeAt s.wline (n + j)
  claimed : ∀ L, (t.line L).claimed = (s.line L).claimed
  inputs : s.advancedBy t n

theorem waitedFor_zero (h : (s.line s.wline).seen = false) : s.WaitedFor s 0 where
  st := rfl
  op := rfl
  pat := rfl
  wline := rfl
  wto := rfl
  timeout := rfl
  bytecount := rfl
  lastStatus := rfl
  wcnt _ := rfl
  seen := h
  edges j := by rw [Nat.zero_add]
  claimed _ := rfl
  inputs := advancedBy_zero s

theorem waitedFor_trans {m n : Nat} (h : s.WaitedFor t m) (h' : t.WaitedFor u n) : s.WaitedFor u (m + n) where
  st := h'.st.trans h.st
  op := h'.op.trans h.op
  pat := h'.pat.trans h.pat
  wline := h'.wline.trans h.wline
  wto := h'.wto.trans h.wto
  timeout := h'.timeout.trans h.timeout
  bytecount := h'.bytecount.trans h.bytecount
  lastStatus := h'.lastStatus.trans h.lastStatus
  wcnt hto := by rw [h'.wcnt (h.wto.trans hto), h.wcnt hto, Nat.add_assoc]
  seen := by rw [← h.wline]; exact h'.seen
  edges j := by
    have he := h'.edges j
    rw [h.wline] at he
    rw [he, h.edges, Nat.add_assoc]
  claimed L := (h'.claimed L).trans (h.claimed L)
  inputs := advancedBy_trans h.inputs h'.inputs

/-- This cycle's edge is the first of those to come. -/
theorem edgeAt_zero (s : State) (L : LineId) : s.edgeAt L 0 = (s.line L).edge := by
  rw [State.edgeAt, Line.edge]
  cases (s.line L).esel <;> rfl

/-- The edges of a kept line to come move on with its synchronised levels. -/
theorem edgeAt_of_kept {L : LineId} (hl : s.lineKept t L) (ha : s.inputsAdvanced t) (j : Nat) :
    t.edgeAt L j = s.edgeAt L (j + 1) := by
  have hsel : (t.line L).esel = (s.line L).esel := by
    obtain ⟨-, -, -, -, hsel, -⟩ := hl
    exact hsel
  rw [State.edgeAt, State.edgeAt, hsel, syncAt_of_kept hl ha, syncAt_of_kept hl ha]

/-- One cycle of a wait with no edge, no `cancel` and its bound not reached. -/
theorem step_waitedFor (hw : s.st.waiting = true) (hq : s.quietAt 0) (hseen : (s.line s.wline).seen = false)
    (hedge : (s.line s.wline).edge = false) (hc : s.inp.cancel = false)
    (hb : s.wto = true → s.wcnt.toNat + 1 < s.timeout.toNat) : ∃ t, step s = .next t ∧ s.WaitedFor t 1 := by
  obtain ⟨t, ht, -, -, -, hgo, hothers, -, hop, hpat, -, -, hwline, hwto, ⟨-, -, htimeout⟩, -, hadv⟩ :=
    waitStepEndsOrGoesOn s hw hq
  obtain ⟨hst, ⟨-, -, -, hlast⟩, hbytes, hkept, hwcnt⟩ :=
    hgo hseen hedge hc fun ⟨hto, hx⟩ => Nat.ne_of_lt (hb hto) hx
  refine ⟨t, ht, hst, hop, hpat, hwline, hwto, htimeout, hbytes, hlast, fun hto => ?_, ?_, fun j => ?_, fun L => ?_,
    advancedBy_one hadv⟩
  · have hlt := hb hto
    rw [hwcnt, if_pos hto]
    bv_omega
  · obtain ⟨-, -, -, -, -, hs, -⟩ := hkept
    rw [hs, hseen, hedge, Bool.and_false, Bool.or_false]
  · rw [edgeAt_of_kept hkept hadv, Nat.add_comm]
  · by_cases hL : L = s.wline
    · subst hL
      exact hkept.1
    · exact (hothers L hL).1

/-! ## What the cycle after `k` cycles of a wait looks at -/

theorem State.WaitedFor.quietAt {k : Nat} (h : s.WaitedFor t k) (hq : s.quietFor (k + 1)) : t.quietAt 0 :=
  quietFor_of_advancedBy hq h.inputs (fun L hL => h.claimed L ▸ hL) 0 Nat.one_pos

theorem State.WaitedFor.waiting {k : Nat} (h : s.WaitedFor t k) (hw : s.st.waiting = true) : t.st.waiting = true := by
  rw [h.st]; exact hw

theorem State.WaitedFor.seen_eq {k : Nat} (h : s.WaitedFor t k) : (t.line t.wline).seen = false := by
  rw [h.wline]; exact h.seen

theorem State.WaitedFor.edge_eq {k : Nat} (h : s.WaitedFor t k) : (t.line t.wline).edge = s.edgeAt s.wline k := by
  rw [h.wline, ← edgeAt_zero]; exact h.edges 0

theorem State.WaitedFor.inp_eq {k : Nat} (h : s.WaitedFor t k) : t.inp = s.inpAt k := inpAt_of_advancedBy h.inputs 0

/-- One more cycle of a wait that has gone on for `k`. -/
theorem State.WaitedFor.next {k : Nat} (h : s.WaitedFor t k) (hw : s.st.waiting = true) (hq : s.quietFor (k + 1))
    (he : s.edgeAt s.wline k = false) (hc : (s.inpAt k).cancel = false)
    (hb : s.wto = true → s.wcnt.toNat + (k + 1) < s.timeout.toNat) :
    ∃ u, step t = .next u ∧ s.WaitedFor u (k + 1) := by
  obtain ⟨u, hu, h'⟩ : ∃ u, step t = .next u ∧ t.WaitedFor u 1 := by
    refine step_waitedFor (h.waiting hw) (h.quietAt hq) h.seen_eq (h.edge_eq.trans he) ?_ fun hto => ?_
    · rw [h.inp_eq]; exact hc
    · rw [h.wto] at hto
      rw [h.wcnt hto, h.timeout]
      exact hb hto
  exact ⟨u, hu, waitedFor_trans h h'⟩

/-- A wait goes on for as long as no edge, no `cancel`, no reset, no fault on a claimed line and no bound ends it. -/
theorem run_waitedFor {k : Nat} (hw : s.st.waiting = true) (hseen : (s.line s.wline).seen = false)
    (hq : s.quietFor k) (hc : s.uncancelledFor k) (he : ∀ j, j < k → s.edgeAt s.wline j = false)
    (hb : s.wto = true → s.wcnt.toNat + k < s.timeout.toNat) :
    ∃ t : State, core.run k s = .next t ∧ s.WaitedFor t k := by
  induction k with
  | zero => exact ⟨s, rfl, waitedFor_zero hseen⟩
  | succ k ih =>
    obtain ⟨t, hrun, h⟩ := ih (quietFor_mono hq (Nat.le_succ k)) (fun j hj => hc j (by omega))
      (fun j hj => he j (by omega)) fun hto => by have := hb hto; omega
    obtain ⟨u, hu, h'⟩ := h.next hw hq (he k (Nat.lt_succ_self k)) (hc k (Nat.lt_succ_self k)) hb
    exact ⟨u, (run_add hrun 1).trans (run_one hu), h'⟩

/-- A line that is disarmed is neither armed nor has it an edge remembered. -/
theorem off_of_lineDisarmed {L : LineId} (h : s.lineDisarmed t L) : (t.line L).armed = false ∧ (t.line L).seen = false := by
  obtain ⟨-, -, -, ha, -, hs, -⟩ := h
  exact ⟨ha, hs⟩

/-- Settles O49: the wait goes on to the cycle of the edge, whose step answers. -/
theorem waitEndsAtTheFirstEdge : Obligations.WaitEndsAtTheFirstEdge := by
  intro s k hw hseen hq hc he hedge hb
  obtain ⟨t, hrun, h⟩ := run_waitedFor hw hseen (quietFor_mono hq (Nat.le_succ k)) hc he hb
  obtain ⟨u, hu, hhit, -⟩ := waitStepEndsOrGoesOn t (h.waiting hw) (h.quietAt hq)
  obtain ⟨hwAwait, hiAwait, hoff, -⟩ := hhit (.inr (h.edge_eq.trans hedge))
  rw [h.wline] at hoff
  obtain ⟨harmed, hseen'⟩ := off_of_lineDisarmed hoff
  rw [h.st, h.bytecount] at hwAwait hiAwait
  rw [h.op, h.pat] at hiAwait
  refine ⟨u, (run_add hrun 1).trans (run_one hu), ?_⟩
  rcases (waiting_iff s.st).mp hw with hs | hs
  · obtain ⟨hbytes, hxmit, hhshake⟩ := hiAwait hs
    rw [if_pos hs]
    refine ⟨?_, harmed, hseen', hbytes⟩
    by_cases hop : s.op = .xmit
    · rw [if_pos ⟨hs, hop⟩]; exact hxmit hop
    · rw [if_neg fun hx => hop hx.2]; exact hhshake hop
  · obtain ⟨hans, hbytes⟩ := hwAwait hs
    rw [if_neg (by simp [hs]), if_neg (by simp [hs])]
    exact ⟨hans, harmed, hseen', hbytes⟩

/-- Settles O50: the wait goes on to the last cycle of its bound, whose step answers. -/
theorem waitTimesOut : Obligations.WaitTimesOut := by
  intro s hw hseen hto hzero hT hq hc he
  have hwcnt : s.wcnt.toNat = 0 := by rw [hzero]; rfl
  have hgoesOn (k : Nat) (hk : k < s.timeout.toNat) : ∃ t : State, core.run k s = .next t ∧ s.WaitedFor t k :=
    run_waitedFor hw hseen (quietFor_mono hq hk.le) (fun j hj => hc j (hj.trans hk)) (fun j hj => he j (hj.trans hk))
      fun _ => by omega
  refine ⟨fun k hk => ?_, ?_⟩
  · obtain ⟨t, hrun, h⟩ := hgoesOn k hk
    exact ⟨t, hrun, h.st⟩
  · obtain ⟨k, hk⟩ : ∃ k, s.timeout.toNat = k + 1 := Nat.exists_eq_succ_of_ne_zero (by bv_omega)
    rw [hk] at hq hc he hgoesOn ⊢
    have hlast : k < k + 1 := Nat.lt_succ_self k
    obtain ⟨t, hrun, h⟩ := hgoesOn k hlast
    obtain ⟨u, hu, -, -, hexpired, -⟩ := waitStepEndsOrGoesOn t (h.waiting hw) (h.quietAt hq)
    have hbound : t.wcnt.toNat + 1 = t.timeout.toNat := by rw [h.wcnt hto, h.timeout, hwcnt, hk, Nat.zero_add]
    obtain ⟨hans, hbytes, hoff, -⟩ := hexpired h.seen_eq (h.edge_eq.trans (he k hlast))
      (by rw [h.inp_eq]; exact hc k hlast) (h.wto.trans hto) hbound
    rw [h.st] at hans
    rw [h.wline] at hoff
    obtain ⟨harmed, hseen'⟩ := off_of_lineDisarmed hoff
    exact ⟨u, (run_add hrun 1).trans (run_one hu), hans, harmed, hseen', hbytes.trans h.bytecount⟩

end Sys2Proof.Machine
end

section
/-! The shift register link, one cycle (41_shift_register_link.md R81 to R85): what SEND starts, and the equation of each link
state in each of its cases. -/

namespace Sys2Proof.Machine

variable {s : State}

/-- Writing a line's level over the always-running updates drives it. -/
theorem tick_drive_lineDriven (s : State) (L : LineId) (v : Level) : s.lineDriven (s.tick.drive L v) L v := by
  simp [State.lineDriven, State.lineSampled]

/-! ## SEND's issue cycle -/

theorem exec_send {v : Data} (hv : v.toNat ≤ 5) (hl : s.linkClaimed = true) :
    exec (.send v) s = .next (s.tick.startShift .send (v.setWidth 8)) :=
  (if_neg (Nat.not_lt.mpr hv)).trans (if_neg (by simp [hl]))

/-- A level's pattern is the level (41_shift_register_link.md R81). -/
theorem toNat_pattern {v : Data} (hv : v.toNat ≤ 5) : (v.setWidth 8).toNat = v.toNat := by
  rw [BitVec.toNat_setWidth]
  omega

/-- The most significant bit of a level's pattern is 0 (41_shift_register_link.md R81). -/
theorem pattern_getLsbD_seven {v : Data} (hv : v.toNat ≤ 5) : (v.setWidth 8).getLsbD 7 = false :=
  Nat.testBit_lt_two_pow (by rw [toNat_pattern hv]; omega)

/-- Settles O28: the start of a shift drives the data line alone, with the pattern's bit 7. -/
theorem sendStartsShifting : Obligations.SendStartsShifting := by
  intro v s hv hlink
  have hout (L : LineId) (hL : L = .data ∨ L = .clock ∨ L = .latch) : (s.line L).isOutput = true :=
    (Line.isOutput_iff _).mpr (hlink L hL)
  have hl : s.linkClaimed = true := linkClaimed_iff.mpr ⟨hout _ (by simp), hout _ (by simp), hout _ (by simp)⟩
  refine ⟨_, exec_send hv hl, rfl, rfl, toNat_pattern hv, rfl, ?_, fun M hM => lineKept_drive _ hM,
    ⟨rfl, rfl, rfl, rfl⟩, rfl, rfl, rfl, rfl, ⟨rfl, rfl, rfl⟩, ⟨rfl, rfl⟩, ⟨rfl, rfl⟩, ⟨rfl, rfl⟩, rfl⟩
  rw [← pattern_getLsbD_seven hv]
  exact tick_drive_lineDriven s .data _

/-! ## The link states -/

/-- A quiet cycle of a busy block is its FSM's (60_exceptions.md R134, case 5). -/
theorem step_of_busy (hi : s.st ≠ .idle) (hf : s.st ≠ .fault) (hq : s.quietAt 0) :
    step s = .next { fsmStep s with ext := nextExt s (fsmStep s) } := by
  obtain ⟨hr, hl⟩ := quietAt_zero_lineFault hq
  exact step_of_blockCycle (blockCycle_fsm hr hf hl (accepts_eq_false_of_busy hi))

/-- The same with the FSM's transition named. -/
theorem step_of_shifting {u : State} (hs : s.st.shifting = true) (hq : s.quietAt 0) (hu : fsmStep s = u) :
    step s = .next { u with ext := nextExt s u } := by
  subst hu
  exact step_of_busy (fun h => by simp [h, FsmState.shifting] at hs) (fun h => by simp [h, FsmState.shifting] at hs) hq

theorem fsmStep_sData (hs : s.st = .sData) :
    fsmStep s = { s.tick.drive .clock true with cnt := 1, st := .sClkH } := by
  rw [fsmStep, hs]
  rfl

/-- The three states that hold a level for SETTLE cycles. -/
theorem fsmStep_hold (hs : s.st = .sClkH ∨ s.st = .sClkL ∨ s.st = .lHigh) (hc : s.cnt.toNat < s.settle.toNat) :
    fsmStep s = { s.tick with cnt := s.cnt + 1 } := by
  rcases hs with hs | hs | hs <;> rw [fsmStep, hs]
  · exact if_pos hc
  · exact if_pos hc
  · exact if_pos hc

theorem fsmStep_sClkH_last (hs : s.st = .sClkH) (hc : s.settle.toNat ≤ s.cnt.toNat) :
    fsmStep s = { s.tick.drive .clock false with cnt := 1, st := .sClkL } := by
  rw [fsmStep, hs]
  exact if_neg (Nat.not_lt.mpr hc)

theorem fsmStep_sClkL_last (hs : s.st = .sClkL) (hc : s.settle.toNat ≤ s.cnt.toNat) :
    fsmStep s = if s.bitidx > 0 then
        { s.tick.drive .data (s.pat.getLsbD (s.bitidx.toNat - 1)) with bitidx := s.bitidx - 1, st := .sData }
      else { s.tick.drive .latch true with cnt := 1, st := .lHigh } := by
  rw [fsmStep, hs]
  exact if_neg (Nat.not_lt.mpr hc)

theorem fsmStep_lHigh_last (hs : s.st = .lHigh) (hc : s.settle.toNat ≤ s.cnt.toNat) :
    fsmStep s = if s.op = .send then
        State.respond { s.tick.drive .latch false with lastLevel := s.pat.setWidth 3 } .ok 0
      else { s.tick.drive .latch false with lastLevel := s.pat.setWidth 3, st := .iPre } := by
  rw [fsmStep, hs]
  exact if_neg (Nat.not_lt.mpr hc)

/-- A hold state's count stays below 2^24. -/
theorem toNat_cnt_succ (hc : s.cnt.toNat < s.settle.toNat) : (s.cnt + 1).toNat = s.cnt.toNat + 1 := by bv_omega

/-- Settles O41: one cycle with the clock raised. -/
theorem sDataRaisesTheClock : Obligations.SDataRaisesTheClock := by
  intro s hs hq
  exact ⟨_, step_of_shifting (by rw [hs]; rfl) hq (fsmStep_sData hs), rfl, rfl, tick_drive_lineDriven s .clock true,
    fun M hM => lineKept_drive _ hM, ⟨rfl, rfl, rfl, rfl⟩, rfl, rfl, rfl, rfl, rfl, rfl, ⟨rfl, rfl, rfl⟩, ⟨rfl, rfl⟩,
    ⟨rfl, rfl⟩, ⟨rfl, rfl⟩⟩

/-- Settles O42: the two clauses are the cases of the count. -/
theorem sClkHHoldsThenLowersTheClock : Obligations.SClkHHoldsThenLowersTheClock := by
  intro s hs hq
  have hstep {u : State} (hu : fsmStep s = u) := step_of_shifting (by rw [hs]; rfl) hq hu
  rcases Nat.lt_or_ge s.cnt.toNat s.settle.toNat with hc | hc
  · exact ⟨_, hstep (fsmStep_hold (.inl hs) hc), fun _ => ⟨hs, toNat_cnt_succ hc, tick_lineKept s⟩,
      fun h => absurd hc (Nat.not_lt.mpr h), ⟨rfl, rfl, rfl, rfl⟩, rfl, rfl, rfl, rfl, rfl, rfl, ⟨rfl, rfl, rfl⟩,
      ⟨rfl, rfl⟩, ⟨rfl, rfl⟩, ⟨rfl, rfl⟩⟩
  · exact ⟨_, hstep (fsmStep_sClkH_last hs hc), fun h => absurd h (Nat.not_lt.mpr hc),
      fun _ => ⟨rfl, rfl, tick_drive_lineDriven s .clock false, fun M hM => lineKept_drive _ hM⟩,
      ⟨rfl, rfl, rfl, rfl⟩, rfl, rfl, rfl, rfl, rfl, rfl, ⟨rfl, rfl, rfl⟩, ⟨rfl, rfl⟩, ⟨rfl, rfl⟩, ⟨rfl, rfl⟩⟩

/-- Settles O43: the three clauses are the cases of the count and, at its end, of the bits left. -/
theorem sClkLHoldsThenNextBitOrLatch : Obligations.SClkLHoldsThenNextBitOrLatch := by
  intro s hs hq
  have hstep {u : State} (hu : fsmStep s = u) := step_of_shifting (by rw [hs]; rfl) hq hu
  rcases Nat.lt_or_ge s.cnt.toNat s.settle.toNat with hc | hc
  · exact ⟨_, hstep (fsmStep_hold (.inr (.inl hs)) hc), fun _ => ⟨hs, toNat_cnt_succ hc, rfl, tick_lineKept s⟩,
      fun h => absurd hc (Nat.not_lt.mpr h), fun h => absurd hc (Nat.not_lt.mpr h), ⟨rfl, rfl, rfl, rfl⟩, rfl, rfl, rfl,
      rfl, rfl, ⟨rfl, rfl, rfl⟩, ⟨rfl, rfl⟩, ⟨rfl, rfl⟩, ⟨rfl, rfl⟩⟩
  · have hlast := fsmStep_sClkL_last hs hc
    rcases Nat.eq_zero_or_pos s.bitidx.toNat with hb | hb
    · rw [if_neg (by bv_omega)] at hlast
      exact ⟨_, hstep hlast, fun h => absurd h (Nat.not_lt.mpr hc), fun _ h => absurd hb (Nat.ne_of_gt h),
        fun _ _ => ⟨rfl, rfl, rfl, tick_drive_lineDriven s .latch true, fun M hM => lineKept_drive _ hM⟩,
        ⟨rfl, rfl, rfl, rfl⟩, rfl, rfl, rfl, rfl, rfl, ⟨rfl, rfl, rfl⟩, ⟨rfl, rfl⟩, ⟨rfl, rfl⟩, ⟨rfl, rfl⟩⟩
    · rw [if_pos (by bv_omega)] at hlast
      have hbit : (s.bitidx - 1).toNat + 1 = s.bitidx.toNat := by bv_omega
      exact ⟨_, hstep hlast, fun h => absurd h (Nat.not_lt.mpr hc),
        fun _ _ => ⟨rfl, rfl, hbit, tick_drive_lineDriven s .data _, fun M hM => lineKept_drive _ hM⟩,
        fun _ h => absurd h (Nat.ne_of_gt hb), ⟨rfl, rfl, rfl, rfl⟩, rfl, rfl, rfl, rfl, rfl, ⟨rfl, rfl, rfl⟩,
        ⟨rfl, rfl⟩, ⟨rfl, rfl⟩, ⟨rfl, rfl⟩⟩

/-- Settles O44: the two clauses are the cases of the count, and its end's two those of the command. -/
theorem lHighHoldsThenCommits : Obligations.LHighHoldsThenCommits := by
  intro s hs hq
  have hstep {u : State} (hu : fsmStep s = u) := step_of_shifting (by rw [hs]; rfl) hq hu
  rcases Nat.lt_or_ge s.cnt.toNat s.settle.toNat with hc | hc
  · exact ⟨_, hstep (fsmStep_hold (.inr (.inr hs)) hc),
      fun _ => ⟨hs, toNat_cnt_succ hc, ⟨rfl, rfl, rfl, rfl⟩, ⟨rfl, rfl⟩, tick_lineKept s⟩,
      fun h => absurd hc (Nat.not_lt.mpr h), rfl, rfl, rfl, rfl, rfl, rfl, ⟨rfl, rfl, rfl⟩, ⟨rfl, rfl⟩, ⟨rfl, rfl⟩⟩
  · have hlast := fsmStep_lHigh_last hs hc
    have hlevel : (s.pat.setWidth 3).toNat = s.pat.toNat % 8 := BitVec.toNat_setWidth ..
    by_cases ho : s.op = .send
    · rw [if_pos ho] at hlast
      exact ⟨_, hstep hlast, fun h => absurd h (Nat.not_lt.mpr hc),
        fun _ => ⟨rfl, tick_drive_lineDriven s .latch false, fun M hM => lineKept_drive _ hM, hlevel, rfl,
          fun _ => ⟨rfl, rfl, rfl, rfl, rfl⟩, fun h => absurd ho h⟩, rfl, rfl, rfl, rfl, rfl, rfl, ⟨rfl, rfl, rfl⟩,
        ⟨rfl, rfl⟩, ⟨rfl, rfl⟩⟩
    · rw [if_neg ho] at hlast
      exact ⟨_, hstep hlast, fun h => absurd h (Nat.not_lt.mpr hc),
        fun _ => ⟨rfl, tick_drive_lineDriven s .latch false, fun M hM => lineKept_drive _ hM, hlevel, rfl,
          fun h => absurd h ho, fun _ => ⟨rfl, rfl, rfl, rfl, rfl⟩⟩, rfl, rfl, rfl, rfl, rfl, rfl,
        ⟨rfl, rfl, rfl⟩, ⟨rfl, rfl⟩, ⟨rfl, rfl⟩⟩

end Sys2Proof.Machine
end

section
/-! The external register over one step (41_shift_register_link.md R91 to R93): its stages and its outputs at the edges of the
pads of this cycle and the next, and between them. -/

namespace Sys2Proof.Machine

variable {s t : State} {L : LineId}

theorem padRises_iff (s t : State) (L : LineId) :
    padRises s t L = true ↔ s.padLevel L = false ∧ t.padLevel L = true := by
  simp [padRises]

theorem padFalls_iff (s t : State) (L : LineId) :
    padFalls s t L = true ↔ s.padLevel L = true ∧ t.padLevel L = false := by
  simp [padFalls]

theorem pulsesTooShort_iff (s : State) : s.pulsesTooShort = true ↔ ¬s.settleLegal := by
  simp [State.pulsesTooShort, State.settleLegal]

theorem commitIsFree_iff (s t : State) : commitIsFree s t = true ↔ ¬s.settleLegal ∨ padRises s t .clock = true := by
  rw [commitIsFree, Bool.or_eq_true, pulsesTooShort_iff]

/-- The register after a step is what the pads of the two cycles make of it. -/
theorem step_ext (h : step s = .next t) : t.ext = nextExt s t := by
  obtain ⟨u, -, rfl⟩ := (step_eq_next_iff s t).mp h
  rfl

/-! ## The stages -/

/-- The captured bit is in the first stage (R92). -/
theorem shiftIn_getLsbD_zero (stage : Byte) (d : Level) : (shiftIn stage d).getLsbD 0 = d :=
  BitVec.getLsbD_append.trans (by simp)

/-- Every stage but the last has moved one place on (R92). -/
theorem shiftIn_getLsbD_succ (stage : Byte) (d : Level) {k : Nat} (hk : k < 7) :
    (shiftIn stage d).getLsbD (k + 1) = stage.getLsbD k :=
  BitVec.getLsbD_append.trans (by simp [hk])

theorem nextStage_of_rise (hr : padRises s t .clock = true) (hl : s.settleLegal)
    (hd : s.padLevel .data = t.padLevel .data) : nextStage s t = shiftIn s.ext.stage (t.padLevel .data) := by
  rw [nextStage, if_pos hr, if_neg (mt (pulsesTooShort_iff s).mp (not_not.mpr hl)), capturedBit, if_pos hd]

theorem nextStage_of_not_rise (hr : ¬padRises s t .clock = true) : nextStage s t = s.ext.stage := if_neg hr

/-- Settles O58: the step's stages are `nextStage`, which shifts at a rising clock edge. -/
theorem externalRegisterShifts : Obligations.ExternalRegisterShifts := by
  intro s t h
  have hstage : t.ext.stage = nextStage s t := by rw [step_ext h]; rfl
  rw [← padRises_iff, hstage]
  refine ⟨fun hlow hhigh hl hd => ?_, nextStage_of_not_rise⟩
  rw [nextStage_of_rise ((padRises_iff s t .clock).mpr ⟨hlow, hhigh⟩) hl hd]
  exact ⟨shiftIn_getLsbD_zero .., fun k hk => shiftIn_getLsbD_succ _ _ hk⟩

/-! ## The outputs -/

theorem nextOut_of_fall (hf : padFalls s t .latch = true) (hl : s.settleLegal) (hr : ¬padRises s t .clock = true)
    (hkept : s.ext.atRise = s.ext.stage) : nextOut s t = s.ext.stage := by
  have hfree : ¬commitIsFree s t = true := mt (commitIsFree_iff s t).mp (by simp [hl, hr])
  rw [nextOut, if_pos hf, if_neg hfree, hkept, ite_self]

theorem nextOut_of_not_fall (hf : ¬padFalls s t .latch = true) : nextOut s t = s.ext.out := if_neg hf

/-- What a register that commits at the rising edge keeps there (91_not_in_source.md N6). -/
theorem nextAtRise_of_rise (hr : padRises s t .latch = true) (hl : s.settleLegal) (hc : ¬padRises s t .clock = true) :
    nextAtRise s t = s.ext.stage := by
  have hfree : ¬commitIsFree s t = true := mt (commitIsFree_iff s t).mp (by simp [hl, hc])
  rw [nextAtRise, if_pos hr, if_neg hfree]

theorem nextAtRise_of_not_rise (hr : ¬padRises s t .latch = true) : nextAtRise s t = s.ext.atRise := if_neg hr

/-- The pins are the outputs while the latch is LOW (93_implementation_defined.md I4). -/
theorem pins_of_latch_low (h : s.padLevel .latch = false) : s.pins = s.ext.out := if_neg (by simp [h])

/-- While the latch is HIGH each pin takes its bit where the free mask says (93_implementation_defined.md I4). -/
theorem pins_getLsbD_of_latch_high (h : s.padLevel .latch = true) {k : Nat} (hk : k < 8) :
    s.pins.getLsbD k =
      if (Config.freeOutMask s.cycle).getLsbD k then s.ext.stage.getLsbD k else s.ext.out.getLsbD k := by
  rw [State.pins, if_pos h, BitVec.getLsbD_or, BitVec.getLsbD_and, BitVec.getLsbD_and, BitVec.getLsbD_not,
    decide_eq_true hk]
  cases (Config.freeOutMask s.cycle).getLsbD k with
  | false => simp
  | true => simp

/-- Settles O59: the step's outputs are `nextOut`, which commits at the latch's fall; the pins mix by their mask. -/
theorem externalRegisterCommits : Obligations.ExternalRegisterCommits := by
  refine ⟨fun s t h => ?_, fun s => ⟨pins_of_latch_low, fun hhigh k hk => ?_⟩⟩
  · have hout : t.ext.out = nextOut s t := by rw [step_ext h]; rfl
    rw [← padRises_iff, ← padFalls_iff, hout]
    exact ⟨fun hhigh hlow hl => nextOut_of_fall ((padFalls_iff s t .latch).mpr ⟨hhigh, hlow⟩) hl, nextOut_of_not_fall⟩
  · rw [pins_getLsbD_of_latch_high hhigh hk]
    split
    · exact .inr rfl
    · exact .inl rfl

end Sys2Proof.Machine
end

section
/-! A shift over many cycles, SEND's or XMIT's (41_shift_register_link.md R82 to R89, R92 to R94): where it is in each cycle,
what its lines show there, and what the external register holds. -/

namespace Sys2Proof.Machine

variable {s t u : State} {o : Op} {pat : Byte} {p p' : FsmState} {n k k' c c' : Nat} {L : LineId}

/-- The lines the link drives (41_shift_register_link.md R81). -/
def OnLink (L : LineId) : Prop := L = .data ∨ L = .clock ∨ L = .latch

theorem padOut_of_lineKept (h : s.lineKept t L) : t.padOut L = s.padOut L := by
  obtain ⟨-, -, hlvl, -⟩ := h
  exact hlvl

theorem padOut_of_lineDriven {v : Level} (h : s.lineDriven t L v) : t.padOut L = v := by
  obtain ⟨-, -, hlvl, -⟩ := h
  exact hlvl

/-- The link's pads show what it drives. -/
theorem padLevel_of_linked (hl : s.linkClaimed = true) (hL : OnLink L) : s.padLevel L = s.padOut L := by
  obtain ⟨hdata, hclock, hlatch⟩ := linkClaimed_iff.mp hl
  rcases hL with rfl | rfl | rfl
  · exact if_pos hdata
  · exact if_pos hclock
  · exact if_pos hlatch

/-! ## What a cycle of a shift keeps -/

/-- A cycle of a shift, the one that accepts its command included, writes the link's levels and no more of the lines. -/
def State.linkFrame (s t : State) : Prop :=
  s.regsKept t ∧ t.bytecount = s.bytecount ∧ s.inputsAdvanced t ∧ (∀ L, s.detectorKept t L) ∧
  ∀ L, ¬OnLink L → s.lineKept t L

theorem tick_linkFrame (s : State) : s.linkFrame s.tick :=
  ⟨⟨rfl, rfl, rfl⟩, rfl, ⟨rfl, rfl⟩, tick_detectorKept s, fun L _ => tick_lineKept s L⟩

theorem tick_drive_linkFrame (s : State) (hL : OnLink L) (v : Level) : s.linkFrame (s.tick.drive L v) :=
  ⟨⟨rfl, rfl, rfl⟩, rfl, ⟨rfl, rfl⟩, fun M => detectorKept_drive L v (tick_detectorKept s M),
    fun _ hM => lineKept_drive v fun e => hM (e ▸ hL)⟩

/-- The link states keep the command and its pattern too (10_state.md R28). -/
def State.shiftFrame (s t : State) : Prop := t.op = s.op ∧ t.pat = s.pat ∧ s.linkFrame t

theorem fsmStep_shiftFrame (hs : s.st.shifting = true) : s.shiftFrame (fsmStep s) := by
  have hhold : s.shiftFrame s.tick := ⟨rfl, rfl, tick_linkFrame s⟩
  have hdrive {L : LineId} (hL : OnLink L) (v : Level) : s.shiftFrame (s.tick.drive L v) :=
    ⟨rfl, rfl, tick_drive_linkFrame s hL v⟩
  rw [fsmStep]
  match s.st, hs with
  | .sData, _ => exact hdrive (.inr (.inl rfl)) true
  | .sClkH, _ =>
    dsimp only [stepSClkH]
    split
    · exact hhold
    · exact hdrive (.inr (.inl rfl)) false
  | .sClkL, _ =>
    dsimp only [stepSClkL]
    split
    · exact hhold
    · split
      · exact hdrive (.inl rfl) _
      · exact hdrive (.inr (.inr rfl)) true
  | .lHigh, _ =>
    dsimp only [stepLHigh]
    split
    · exact hhold
    · split
      · exact hdrive (.inr (.inr rfl)) false
      · exact hdrive (.inr (.inr rfl)) false

theorem step_shiftFrame (hs : s.st.shifting = true) (hq : s.quietAt 0) (h : step s = .next t) : s.shiftFrame t := by
  rw [step_of_shifting hs hq rfl] at h
  cases h
  exact fsmStep_shiftFrame hs

/-! ## What a shift has kept after some cycles -/

/-- `t` is the state `n` cycles after `s`, with the command `o` shifting `pat`: the registers, the claims and the lines that
are not the link's are those of `s`, and so are these lines' synchronised levels to come, `n` cycles on (what the handshake
after an XMIT's shift starts from, 44_transmit_cycle.md R118). -/
structure State.ShiftRun (s : State) (o : Op) (pat : Byte) (n : Nat) (t : State) : Prop where
  run : core.run n s = .next t
  op : t.op = o
  pat : t.pat = pat
  regs : s.regsKept t
  bytecount : t.bytecount = s.bytecount
  inputs : s.advancedBy t n
  claimed : ∀ L, (t.line L).claimed = (s.line L).claimed
  dir : ∀ L, (t.line L).dir = (s.line L).dir
  padOut : ∀ L, ¬OnLink L → t.padOut L = s.padOut L
  sync : ∀ L, ¬OnLink L → ∀ j, t.syncAt L j = s.syncAt L (n + j)

theorem shiftRun_zero (s : State) : s.ShiftRun s.op s.pat 0 s where
  run := rfl
  op := rfl
  pat := rfl
  regs := ⟨rfl, rfl, rfl⟩
  bytecount := rfl
  inputs := advancedBy_zero s
  claimed _ := rfl
  dir _ := rfl
  padOut _ _ := rfl
  sync _ _ j := by rw [Nat.zero_add]

theorem State.ShiftRun.next {o' : Op} {pat' : Byte} (h : s.ShiftRun o pat n t) (hstep : step t = .next u)
    (hf : t.linkFrame u) (ho : u.op = o') (hp : u.pat = pat') : s.ShiftRun o' pat' (n + 1) u := by
  obtain ⟨⟨hsettle, hintpulse, htimeout⟩, hbytes, hadv, hdet, hkept⟩ := hf
  obtain ⟨hsettle', hintpulse', htimeout'⟩ := h.regs
  exact {
    run := (run_add h.run 1).trans (run_one hstep)
    op := ho
    pat := hp
    regs := ⟨hsettle.trans hsettle', hintpulse.trans hintpulse', htimeout.trans htimeout'⟩
    bytecount := hbytes.trans h.bytecount
    inputs := advancedBy_trans h.inputs (advancedBy_one hadv)
    claimed := fun L => by
      obtain ⟨-, -, -, hclaimed, -⟩ := hdet L
      exact hclaimed.trans (h.claimed L)
    dir := fun L => by
      obtain ⟨-, -, -, -, hdir⟩ := hdet L
      exact hdir.trans (h.dir L)
    padOut := fun L hL => (padOut_of_lineKept (hkept L hL)).trans (h.padOut L hL)
    sync := fun L hL j => by rw [syncAt_of_kept (hkept L hL) hadv, h.sync L hL, Nat.add_assoc, Nat.add_comm 1 j] }

theorem State.ShiftRun.settle (h : s.ShiftRun o pat n t) : t.settle = s.settle := by
  obtain ⟨hsettle, -⟩ := h.regs
  exact hsettle

theorem State.ShiftRun.linked (h : s.ShiftRun o pat n t) (hl : s.linkClaimed = true) : t.linkClaimed = true := by
  rw [linkClaimed_iff] at hl ⊢
  simpa only [Line.isOutput, h.claimed, h.dir] using hl

theorem State.ShiftRun.quietAt (h : s.ShiftRun o pat n t) (hq : s.quietFor (n + 1)) : t.quietAt 0 :=
  quietFor_of_advancedBy hq h.inputs (fun L hL => h.claimed L ▸ hL) 0 Nat.one_pos

theorem State.ShiftRun.settleLegal (h : s.ShiftRun o pat n t) (hl : s.settleLegal) : t.settleLegal := by
  rw [State.settleLegal, h.settle]
  exact hl

/-! ## What the external register has captured -/

/-- The `m` bits of `pat` sent first, most significant first, are in the first `m` stages (R94). -/
def Captured (stage pat : Byte) (m : Nat) : Prop := ∀ i, i < m → stage.getLsbD i = pat.getLsbD (8 - m + i)

theorem captured_zero (stage pat : Byte) : Captured stage pat 0 := fun _ hi => absurd hi (Nat.not_lt_zero _)

/-- A shift by one stage captures the next bit. -/
theorem captured_succ {stage stage' : Byte} {m : Nat} (h : Captured stage pat m) (hm : m < 8)
    (hfirst : stage'.getLsbD 0 = pat.getLsbD (7 - m)) (hmove : ∀ i, i < 7 → stage'.getLsbD (i + 1) = stage.getLsbD i) :
    Captured stage' pat (m + 1)
  | 0, _ => by rw [hfirst]; congr 1; omega
  | i + 1, hi => by rw [hmove i (by omega), h i (by omega)]; congr 1; omega

/-- After eight bits the stages are the pattern (R94). -/
theorem eq_of_captured_eight {stage : Byte} (h : Captured stage pat 8) : stage = pat :=
  BitVec.eq_of_getLsbD_eq fun i hi => by rw [h i hi]; congr 1; omega

/-! ## Where a shift is -/

/-- The state, and the levels R87's table gives for bit `k` of the send order. -/
def State.showsBit (t : State) (p : FsmState) (pat : Byte) (k : Nat) : Prop :=
  t.st = p ∧ t.padOut .data = pat.getLsbD (7 - k) ∧ t.padOut .clock = (p == .sClkH) ∧
  t.padOut .latch = (p == .lHigh)

/-- How many bits have met a rising clock edge, at bit `k` of the send order. -/
def bitsClocked (p : FsmState) (k : Nat) : Nat := if p = .sData then k else k + 1

/-- `n` cycles after `s` the shift of `pat` is at bit `k` of the send order in state `p`, in the `c`th cycle of its hold. -/
structure State.ShiftsAt (s : State) (o : Op) (pat : Byte) (n : Nat) (t : State) (p : FsmState) (k c : Nat) : Prop where
  ran : s.ShiftRun o pat n t
  shows : t.showsBit p pat k
  bitidx : t.bitidx.toNat + k = 7
  cnt : p ≠ .sData → t.cnt.toNat = c
  captured : s.settleLegal → Captured t.ext.stage pat (bitsClocked p k)
  atRise : s.settleLegal → p = .lHigh → t.ext.atRise = t.ext.stage

theorem State.ShiftsAt.st (h : s.ShiftsAt o pat n t p k c) : t.st = p := by
  obtain ⟨hst, -⟩ := h.shows
  exact hst

/-- A line of the link that is HIGH in the state `q` alone rises where the shift enters `q`. -/
theorem rises_iff {q : FsmState} (hL : OnLink L) (hl : t.linkClaimed = true) (hl' : u.linkClaimed = true)
    (h : t.padOut L = (p == q)) (h' : u.padOut L = (p' == q)) :
    t.padLevel L = false ∧ u.padLevel L = true ↔ p ≠ q ∧ p' = q := by
  rw [padLevel_of_linked hl hL, padLevel_of_linked hl' hL, h, h', beq_eq_false_iff_ne, beq_iff_eq]

theorem step_atRise_of_rise (hstep : step t = .next u) (hl : t.settleLegal)
    (hr : t.padLevel .latch = false ∧ u.padLevel .latch = true)
    (hc : ¬(t.padLevel .clock = false ∧ u.padLevel .clock = true)) : u.ext.atRise = t.ext.stage := by
  rw [← padRises_iff] at hr hc
  rw [step_ext hstep]
  exact nextAtRise_of_rise hr hl hc

theorem step_atRise_of_not_rise (hstep : step t = .next u)
    (hr : ¬(t.padLevel .latch = false ∧ u.padLevel .latch = true)) : u.ext.atRise = t.ext.atRise := by
  rw [← padRises_iff] at hr
  rw [step_ext hstep]
  exact nextAtRise_of_not_rise hr

/-- One step of a shift that raises the clock: the external register captures the bit shown. -/
theorem State.ShiftsAt.next_rising (h : s.ShiftsAt o pat n t .sData k c) (hl : s.linkClaimed = true)
    (hstep : step t = .next u) (hran : s.ShiftRun o pat (n + 1) u) (hshows : u.showsBit .sClkH pat k)
    (hbit : u.bitidx.toNat + k = 7) (hcnt : u.cnt.toNat = c') : s.ShiftsAt o pat (n + 1) u .sClkH k c' := by
  refine ⟨hran, hshows, hbit, fun _ => hcnt, fun hlegal => ?_, fun _ => nofun⟩
  have hlt := h.ran.linked hl
  have hlu := hran.linked hl
  obtain ⟨-, hdata, hclock, -⟩ := h.shows
  obtain ⟨-, hdata', hclock', -⟩ := id hshows
  have hlevel : t.padLevel .data = u.padLevel .data := by
    rw [padLevel_of_linked hlt (.inl rfl), padLevel_of_linked hlu (.inl rfl), hdata, hdata']
  obtain ⟨hlow, hhigh⟩ := (rises_iff (.inr (.inl rfl)) hlt hlu hclock hclock').mpr ⟨nofun, rfl⟩
  obtain ⟨hshift, -⟩ := externalRegisterShifts t u hstep
  obtain ⟨hfirst, hmove⟩ := hshift hlow hhigh (h.ran.settleLegal hlegal) hlevel
  rw [padLevel_of_linked hlu (.inl rfl), hdata'] at hfirst
  exact captured_succ (h.captured hlegal) (show k < 8 by omega) hfirst hmove

/-- One step of a shift that does not raise the clock: the stages stay, and are kept if the latch rises. -/
theorem State.ShiftsAt.next_level (h : s.ShiftsAt o pat n t p k c) (hl : s.linkClaimed = true)
    (hstep : step t = .next u) (hran : s.ShiftRun o pat (n + 1) u) (hshows : u.showsBit p' pat k')
    (hbit : u.bitidx.toNat + k' = 7) (hcnt : p' ≠ .sData → u.cnt.toNat = c') (hsame : p' = .sClkH → p = .sClkH)
    (hclocked : bitsClocked p' k' = bitsClocked p k) : s.ShiftsAt o pat (n + 1) u p' k' c' := by
  have hlt := h.ran.linked hl
  have hlu := hran.linked hl
  obtain ⟨-, -, hclock, hlatch⟩ := h.shows
  obtain ⟨-, -, hclock', hlatch'⟩ := id hshows
  have hno : ¬(t.padLevel .clock = false ∧ u.padLevel .clock = true) := by
    rw [rises_iff (.inr (.inl rfl)) hlt hlu hclock hclock']
    exact fun ⟨hne, he⟩ => hne (hsame he)
  obtain ⟨-, hstay⟩ := externalRegisterShifts t u hstep
  have hstage : u.ext.stage = t.ext.stage := hstay hno
  have hrise := rises_iff (.inr (.inr rfl)) hlt hlu hlatch hlatch'
  refine ⟨hran, hshows, hbit, hcnt, fun hlegal => ?_, fun hlegal hp' => ?_⟩
  · rw [hstage, hclocked]
    exact h.captured hlegal
  · rw [hstage]
    by_cases hp : p = .lHigh
    · rw [step_atRise_of_not_rise hstep (mt hrise.mp fun ⟨hne, _⟩ => hne hp)]
      exact h.atRise hlegal hp
    · exact step_atRise_of_rise hstep (h.ran.settleLegal hlegal) (hrise.mpr ⟨hp, hp'⟩) hno

/-! ## The transitions of a shift -/

theorem State.ShiftsAt.ran_next (h : s.ShiftsAt o pat n t p k c) (hp : p.shifting = true) (hq : s.quietFor (n + 1))
    (hstep : step t = .next u) : s.ShiftRun o pat (n + 1) u := by
  obtain ⟨hop, hpat, hf⟩ := step_shiftFrame (by rw [h.st]; exact hp) (h.ran.quietAt hq) hstep
  exact h.ran.next hstep hf (hop.trans h.ran.op) (hpat.trans h.ran.pat)

section
variable (hl : s.linkClaimed = true)
include hl

/-- R82: the clock rises, and the bit shown is captured. -/
theorem State.ShiftsAt.raiseClock (h : s.ShiftsAt o pat n t .sData k c) (hq : s.quietFor (n + 1)) :
    ∃ u, s.ShiftsAt o pat (n + 1) u .sClkH k 1 := by
  obtain ⟨u, hstep, hst, hcnt, hdriven, hkept, -, -, -, hbit, -⟩ := sDataRaisesTheClock t h.st (h.ran.quietAt hq)
  obtain ⟨-, hdata, -, hlatch⟩ := h.shows
  refine ⟨u, h.next_rising hl hstep (h.ran_next rfl hq hstep) ?_ (hbit ▸ h.bitidx) (congrArg BitVec.toNat hcnt)⟩
  exact ⟨hst, (padOut_of_lineKept (hkept .data nofun)).trans hdata, padOut_of_lineDriven hdriven,
    (padOut_of_lineKept (hkept .latch nofun)).trans hlatch⟩

/-- R83 to R85: a hold state counts up to SETTLE. -/
theorem State.ShiftsAt.hold (h : s.ShiftsAt o pat n t p k c) (hp : p = .sClkH ∨ p = .sClkL ∨ p = .lHigh)
    (hc : c < s.settle.toNat) (hq : s.quietFor (n + 1)) : ∃ u, s.ShiftsAt o pat (n + 1) u p k (c + 1) := by
  have hs : p.shifting = true := by rcases hp with rfl | rfl | rfl <;> rfl
  have hdata : p ≠ .sData := by rcases hp with rfl | rfl | rfl <;> exact nofun
  have hlt : t.cnt.toNat < t.settle.toNat := by rw [h.cnt hdata, h.ran.settle]; exact hc
  have hstep := step_of_shifting (h.st ▸ hs) (h.ran.quietAt hq) (fsmStep_hold (h.st ▸ hp) hlt)
  refine ⟨_, h.next_level hl hstep (h.ran_next hs hq hstep) ?_ h.bitidx (fun _ => ?_) id rfl⟩
  · simpa [State.showsBit, State.padOut] using h.shows
  · exact (toNat_cnt_succ hlt).trans (congrArg Nat.succ (h.cnt hdata))

/-- R83: the clock falls. -/
theorem State.ShiftsAt.lowerClock (h : s.ShiftsAt o pat n t .sClkH k s.settle.toNat) (hq : s.quietFor (n + 1)) :
    ∃ u, s.ShiftsAt o pat (n + 1) u .sClkL k 1 := by
  obtain ⟨u, hstep, -, hlast, -, -, -, hbit, -⟩ := sClkHHoldsThenLowersTheClock t h.st (h.ran.quietAt hq)
  obtain ⟨hst, hcnt, hdriven, hkept⟩ := hlast (by rw [h.cnt nofun, h.ran.settle])
  obtain ⟨-, hdata, -, hlatch⟩ := h.shows
  refine ⟨u, h.next_level hl hstep (h.ran_next rfl hq hstep) ?_ (hbit ▸ h.bitidx)
    (fun _ => congrArg BitVec.toNat hcnt) nofun rfl⟩
  exact ⟨hst, (padOut_of_lineKept (hkept .data nofun)).trans hdata, padOut_of_lineDriven hdriven,
    (padOut_of_lineKept (hkept .latch nofun)).trans hlatch⟩

/-- R84: the next bit is shown. -/
theorem State.ShiftsAt.nextBit (h : s.ShiftsAt o pat n t .sClkL k s.settle.toNat) (hk : k < 7)
    (hq : s.quietFor (n + 1)) : ∃ u, s.ShiftsAt o pat (n + 1) u .sData (k + 1) 0 := by
  have hbit := h.bitidx
  obtain ⟨u, hstep, -, hnext, -⟩ := sClkLHoldsThenNextBitOrLatch t h.st (h.ran.quietAt hq)
  obtain ⟨hst, -, hbit', hdriven, hkept⟩ := hnext (by rw [h.cnt nofun, h.ran.settle]) (by omega)
  obtain ⟨-, -, hclock, hlatch⟩ := h.shows
  have hdata : u.padOut .data = pat.getLsbD (7 - (k + 1)) := by
    rw [padOut_of_lineDriven hdriven, h.ran.pat]
    congr 1
    omega
  exact ⟨u, h.next_level hl hstep (h.ran_next rfl hq hstep)
    ⟨hst, hdata, (padOut_of_lineKept (hkept .clock nofun)).trans hclock,
      (padOut_of_lineKept (hkept .latch nofun)).trans hlatch⟩ (by omega) (absurd rfl) nofun rfl⟩

/-- R84: after the last bit the latch rises. -/
theorem State.ShiftsAt.raiseLatch (h : s.ShiftsAt o pat n t .sClkL 7 s.settle.toNat) (hq : s.quietFor (n + 1)) :
    ∃ u, s.ShiftsAt o pat (n + 1) u .lHigh 7 1 := by
  have hbit := h.bitidx
  obtain ⟨u, hstep, -, -, hlast, -⟩ := sClkLHoldsThenNextBitOrLatch t h.st (h.ran.quietAt hq)
  obtain ⟨hst, hcnt, hbit', hdriven, hkept⟩ := hlast (by rw [h.cnt nofun, h.ran.settle]) (by omega)
  obtain ⟨-, hdata, hclock, -⟩ := h.shows
  exact ⟨u, h.next_level hl hstep (h.ran_next rfl hq hstep)
    ⟨hst, (padOut_of_lineKept (hkept .data nofun)).trans hdata, (padOut_of_lineKept (hkept .clock nofun)).trans hclock,
      padOut_of_lineDriven hdriven⟩ (by rw [hbit', hbit]) (fun _ => congrArg BitVec.toNat hcnt) nofun rfl⟩

/-- What the end of a shift leaves: SEND's response, or XMIT's next state; the pads of R86; and where SETTLE is legal, the
pattern in the external register (R94). -/
structure State.ShiftDone (s : State) (o : Op) (pat : Byte) (n : Nat) (t : State) : Prop where
  ran : s.ShiftRun o pat n t
  answered : o = .send → t.answered .ok 0
  goesOn : o ≠ .send → t.st = .iPre
  lastLevel : t.lastLevel.toNat = pat.toNat % 8
  data : t.padOut .data = pat.getLsbD 0
  clock : t.padOut .clock = false
  latch : t.padOut .latch = false
  stage : s.settleLegal → t.ext.stage = pat
  out : s.settleLegal → t.ext.out = pat

/-- R85: the latch falls, and the stages are committed. -/
theorem State.ShiftsAt.lowerLatch (h : s.ShiftsAt o pat n t .lHigh 7 s.settle.toNat) (hq : s.quietFor (n + 1)) :
    ∃ u, s.ShiftDone o pat (n + 1) u := by
  obtain ⟨u, hstep, -, hlast, -⟩ := lHighHoldsThenCommits t h.st (h.ran.quietAt hq)
  obtain ⟨-, hdriven, hkept, hlevel, -, hsend, hxmit⟩ := hlast (by rw [h.cnt nofun, h.ran.settle])
  rw [h.ran.op] at hsend hxmit
  rw [h.ran.pat] at hlevel
  obtain ⟨-, hdata, hclock, hlatch⟩ := h.shows
  have hclock' := (padOut_of_lineKept (hkept .clock nofun)).trans hclock
  have hlatch' := padOut_of_lineDriven hdriven
  have hran := h.ran_next rfl hq hstep
  have hno : ¬(t.padLevel .clock = false ∧ u.padLevel .clock = true) := by
    rw [padLevel_of_linked (hran.linked hl) (.inr (.inl rfl)), hclock']
    exact fun ⟨_, hhigh⟩ => nomatch hhigh
  have hstage (hlegal : s.settleLegal) : t.ext.stage = pat := eq_of_captured_eight (h.captured hlegal)
  refine ⟨u, hran, hsend, fun ho => ?_, hlevel, (padOut_of_lineKept (hkept .data nofun)).trans hdata, hclock', hlatch',
    fun hlegal => ?_, fun hlegal => ?_⟩
  · obtain ⟨hst, -⟩ := hxmit ho
    exact hst
  · obtain ⟨-, hstay⟩ := externalRegisterShifts t u hstep
    rw [hstay hno, hstage hlegal]
  · obtain ⟨hsteps, -⟩ := externalRegisterCommits
    obtain ⟨hcommit, -⟩ := hsteps t u hstep
    rw [padLevel_of_linked (h.ran.linked hl) (.inr (.inr rfl)), padLevel_of_linked (hran.linked hl) (.inr (.inr rfl))]
      at hcommit
    rw [hcommit hlatch hlatch' (h.ran.settleLegal hlegal) hno (h.atRise hlegal rfl), hstage hlegal]

end

end Sys2Proof.Machine
end

section
/-! The waveform of a shift and its end (41_shift_register_link.md R86, R87, R94), from the cycle after its command is
accepted; then SEND's. -/

namespace Sys2Proof.Machine

variable {s t : State} {o : Op} {pat : Byte} {p : FsmState} {n k c j : Nat}

/-! ## The cycles of one bit -/

section
variable (hl : s.linkClaimed = true)
include hl

/-- A hold state's `j`th cycle after its first. -/
theorem State.ShiftsAt.held (h : s.ShiftsAt o pat n t p k 1) (hp : p = .sClkH ∨ p = .sClkL ∨ p = .lHigh)
    (hj : j < s.settle.toNat) (hq : s.quietFor (n + j)) : ∃ u, s.ShiftsAt o pat (n + j) u p k (j + 1) := by
  induction j with
  | zero => exact ⟨t, h⟩
  | succ j ih =>
    obtain ⟨u, hu⟩ := ih (by omega) (quietFor_mono hq (by omega))
    exact hu.hold hl hp hj hq

theorem State.ShiftsAt.inClkH (h : s.ShiftsAt o pat n t .sData k c) (hj : j < s.settle.toNat)
    (hq : s.quietFor (n + 1 + j)) : ∃ u, s.ShiftsAt o pat (n + 1 + j) u .sClkH k (j + 1) := by
  obtain ⟨u, hu⟩ := h.raiseClock hl (quietFor_mono hq (by omega))
  exact hu.held hl (.inl rfl) hj hq

/-- The last cycle of a hold is its SETTLEth. -/
theorem State.ShiftsAt.heldToTheEnd (hS : 0 < s.settle.toNat) (h : s.ShiftsAt o pat n t p k 1)
    (hp : p = .sClkH ∨ p = .sClkL ∨ p = .lHigh) (hq : s.quietFor (n + s.settle.toNat)) :
    ∃ m u, m + 1 = n + s.settle.toNat ∧ s.ShiftsAt o pat m u p k s.settle.toNat := by
  obtain ⟨u, hu⟩ := h.held hl hp (j := s.settle.toNat - 1) (by omega) (quietFor_mono hq (by omega))
  rw [Nat.sub_add_cancel hS] at hu
  exact ⟨_, u, by omega, hu⟩

theorem State.ShiftsAt.inClkL (h : s.ShiftsAt o pat n t .sData k c) (hj : j < s.settle.toNat)
    (hq : s.quietFor (n + 1 + s.settle.toNat + j)) :
    ∃ u, s.ShiftsAt o pat (n + 1 + s.settle.toNat + j) u .sClkL k (j + 1) := by
  obtain ⟨u, hu⟩ := h.raiseClock hl (quietFor_mono hq (by omega))
  obtain ⟨m, v, hm, hv⟩ := hu.heldToTheEnd hl (by omega) (.inl rfl) (quietFor_mono hq (by omega))
  obtain ⟨w, hw⟩ := hv.lowerClock hl (quietFor_mono hq (by omega))
  rw [hm] at hw
  exact hw.held hl (.inr (.inl rfl)) hj hq

/-- The last cycle of a bit. -/
theorem State.ShiftsAt.endOfBit (hS : 0 < s.settle.toNat) (h : s.ShiftsAt o pat n t .sData k c)
    (hq : s.quietFor (n + (2 * s.settle.toNat + 1))) :
    ∃ m u, m + 1 = n + (2 * s.settle.toNat + 1) ∧ s.ShiftsAt o pat m u .sClkL k s.settle.toNat := by
  obtain ⟨u, hu⟩ := h.inClkL hl hS (quietFor_mono hq (by omega))
  obtain ⟨m, v, hm, hv⟩ := hu.heldToTheEnd hl hS (.inr (.inl rfl)) (quietFor_mono hq (by omega))
  exact ⟨m, v, by omega, hv⟩

/-! ## The eight bits and the latch -/

/-- Bit `k` of the send order is shown `k` bits after the first. -/
theorem State.ShiftsAt.bit (hS : 0 < s.settle.toNat) (h : s.ShiftsAt o pat n t .sData 0 0) (hk : k < 8)
    (hq : s.quietFor (n + k * (2 * s.settle.toNat + 1))) :
    ∃ u, s.ShiftsAt o pat (n + k * (2 * s.settle.toNat + 1)) u .sData k 0 := by
  induction k with
  | zero => exact ⟨t, by rwa [Nat.zero_mul]⟩
  | succ k ih =>
    rw [Nat.succ_mul, ← Nat.add_assoc] at hq ⊢
    obtain ⟨u, hu⟩ := ih (by omega) (quietFor_mono hq (Nat.le_add_right ..))
    obtain ⟨m, v, hm, hv⟩ := hu.endOfBit hl hS hq
    rw [← hm] at hq ⊢
    exact hv.nextBit hl (by omega) hq

theorem State.ShiftsAt.inLHigh (h : s.ShiftsAt o pat n t .sData 0 0) (hj : j < s.settle.toNat)
    (hq : s.quietFor (n + 8 * (2 * s.settle.toNat + 1) + j)) :
    ∃ u, s.ShiftsAt o pat (n + 8 * (2 * s.settle.toNat + 1) + j) u .lHigh 7 (j + 1) := by
  have hS : 0 < s.settle.toNat := by omega
  obtain ⟨u, hu⟩ := h.bit hl hS (k := 7) (by omega) (quietFor_mono hq (by omega))
  obtain ⟨m, v, hm, hv⟩ := hu.endOfBit hl hS (quietFor_mono hq (by omega))
  obtain ⟨w, hw⟩ := hv.raiseLatch hl (quietFor_mono hq (by omega))
  rw [hm, Nat.add_assoc, ← Nat.succ_mul] at hw
  exact hw.held hl (.inr (.inr rfl)) hj hq

theorem State.ShiftsAt.done (hS : 0 < s.settle.toNat) (h : s.ShiftsAt o pat n t .sData 0 0)
    (hq : s.quietFor (n + 8 * (2 * s.settle.toNat + 1) + s.settle.toNat)) :
    ∃ u, s.ShiftDone o pat (n + 8 * (2 * s.settle.toNat + 1) + s.settle.toNat) u := by
  obtain ⟨u, hu⟩ := h.inLHigh hl hS (quietFor_mono hq (by omega))
  obtain ⟨m, v, hm, hv⟩ := hu.heldToTheEnd hl hS (.inr (.inr rfl)) hq
  have hm : m + 1 = n + 8 * (2 * s.settle.toNat + 1) + s.settle.toNat := hm
  rw [← hm] at hq ⊢
  exact hv.lowerLatch hl hq

end

/-! ## One SEND -/

/-- The step that accepts a shift's command leads to its first bit (41_shift_register_link.md R81,
44_transmit_cycle.md R115). -/
theorem shiftsAt_start {e : ExtRegister} (hstep : step s = .next { s.tick.startShift o pat with ext := e })
    (hc : (s.line .clock).lvl = false) (hlatch : (s.line .latch).lvl = false) :
    s.ShiftsAt o pat 1 { s.tick.startShift o pat with ext := e } .sData 0 0 where
  ran := (shiftRun_zero s).next hstep (tick_drive_linkFrame s (.inl rfl) (pat.getLsbD 7)) rfl rfl
  shows := ⟨rfl, rfl, hc, hlatch⟩
  bitidx := rfl
  cnt := absurd rfl
  captured _ := captured_zero _ _
  atRise _ := nofun

/-- A SEND that is accepted in this cycle is at its first bit in the next (R81). -/
theorem send_shiftsAt {v : Data} (hs : s.st = .idle) (hv : s.inp.cmdValid = true) (hd : decode s.inp.cmd = .ok (.send v))
    (h5 : v.toNat ≤ 5) (hl : s.linkClaimed = true) (hc : (s.line .clock).lvl = false)
    (hlatch : (s.line .latch).lvl = false) (hq : s.quietAt 0) :
    ∃ t, s.ShiftsAt .send (v.setWidth 8) 1 t .sData 0 0 :=
  ⟨_, shiftsAt_start (stepRunsTheAcceptedCommand s _ _ hs hq hv hd (exec_send h5 hl)) hc hlatch⟩

theorem pattern_getLsbD (v : Data) {i : Nat} (hi : i < 8) : (v.setWidth 8).getLsbD i = v.getLsbD i := by
  simp [hi]

/-- Settles O52: each row of the table is a place of the shift, reached bit by bit. -/
theorem sendWaveform : Obligations.SendWaveform := by
  intro s v S hS hpos hs hv hd h5 hl hc hlatch hq
  subst hS
  obtain ⟨t, h⟩ := send_shiftsAt hs hv hd h5 hl hc hlatch (quietFor_zero hq (by omega))
  have hpat {i : Nat} (hi : i < 8) := pattern_getLsbD v hi
  have hle {k : Nat} (hk : k < 8) : k * (2 * s.settle.toNat + 1) ≤ 7 * (2 * s.settle.toNat + 1) :=
    Nat.mul_le_mul_right _ (Nat.le_of_lt_succ hk)
  have hbit {k : Nat} (hk : k < 8) := h.bit hl hpos hk (quietFor_mono hq (by have := hle hk; omega))
  refine ⟨fun k hk => ?_, fun k j hk hj => ?_, fun k j hk hj => ?_, fun j hj => ?_, ?_⟩
  · obtain ⟨u, hu⟩ := hbit hk
    exact ⟨u, hu.ran.run, hpat (show 7 - k < 8 by omega) ▸ hu.shows⟩
  · obtain ⟨u, hu⟩ := hbit hk
    obtain ⟨w, hw⟩ := hu.inClkH hl hj (quietFor_mono hq (by have := hle hk; omega))
    rw [show 1 + k * (2 * s.settle.toNat + 1) + 1 + j = 2 + k * (2 * s.settle.toNat + 1) + j by omega] at hw
    exact ⟨w, hw.ran.run, hpat (show 7 - k < 8 by omega) ▸ hw.shows⟩
  · obtain ⟨u, hu⟩ := hbit hk
    obtain ⟨w, hw⟩ := hu.inClkL hl hj (quietFor_mono hq (by have := hle hk; omega))
    rw [show 1 + k * (2 * s.settle.toNat + 1) + 1 + s.settle.toNat + j =
      2 + s.settle.toNat + k * (2 * s.settle.toNat + 1) + j by omega] at hw
    exact ⟨w, hw.ran.run, hpat (show 7 - k < 8 by omega) ▸ hw.shows⟩
  · obtain ⟨w, hw⟩ := h.inLHigh hl hj (quietFor_mono hq (by omega))
    rw [show 1 + 8 * (2 * s.settle.toNat + 1) + j = 16 * s.settle.toNat + 9 + j by omega] at hw
    exact ⟨w, hw.ran.run, hpat (show 0 < 8 by omega) ▸ hw.shows⟩
  · obtain ⟨w, hw⟩ := h.done hl hpos (quietFor_mono hq (by omega))
    rw [show 1 + 8 * (2 * s.settle.toNat + 1) + s.settle.toNat = 17 * s.settle.toNat + 9 by omega] at hw
    refine ⟨w, hw.ran.run, hw.answered rfl, ?_, hpat (show 0 < 8 by omega) ▸ hw.data, hw.clock, hw.latch⟩
    rw [hw.lastLevel, toNat_pattern h5]
    omega

/-- Settles O53: the eight captured bits are the pattern, which the latch commits and the pins show. -/
theorem sendRoundTrip : Obligations.SendRoundTrip := by
  intro s v hS hlegal hs hv hd h5 hl hc hlatch hq
  have hpos : 0 < s.settle.toNat := by bv_omega
  obtain ⟨t, h⟩ := send_shiftsAt hs hv hd h5 hl hc hlatch (quietFor_zero hq (by omega))
  obtain ⟨w, hw⟩ := h.done hl hpos (quietFor_mono hq (by omega))
  rw [show 1 + 8 * (2 * s.settle.toNat + 1) + s.settle.toNat = 17 * s.settle.toNat + 9 by omega] at hw
  have hlow : w.padLevel .latch = false := by
    rw [padLevel_of_linked (hw.ran.linked hl) (.inr (.inr rfl))]
    exact hw.latch
  refine ⟨w, hw.ran.run, hw.answered rfl, ?_, ?_, hlow, ?_⟩
  · rw [hw.stage hlegal, toNat_pattern h5]
  · rw [hw.out hlegal, toNat_pattern h5]
  · rw [pins_of_latch_low hlow, hw.out hlegal, toNat_pattern h5]

end Sys2Proof.Machine
end

section
/-! The handshake (42_handshake.md R97, R98, R102): HSHAKE's issue cycle, the interrupt's pulse over one cycle and over many,
and the wait for ack that nothing bounds. -/

namespace Sys2Proof.Machine

variable {s t : State} {o : Op} {pat : Byte} {n k : Nat}

/-! ## HSHAKE's issue cycle -/

theorem exec_hshake (hc : s.channelClaimed = true) :
    exec .hshake s = .next { s.tick.assertInterrupt with op := .hshake } := by
  obtain ⟨hout, hin⟩ := channelClaimed_iff.mp hc
  exact (if_neg (by simp [hout])).trans (if_neg (by simp [hin]))

/-- Settles O29: with the channel claimed only the interrupt's level is written over the always-running updates. -/
theorem hshakeAssertsTheInterrupt : Obligations.HshakeAssertsTheInterrupt := by
  intro s hint hintDir hack hackDir
  have hc : s.channelClaimed = true :=
    channelClaimed_iff.mpr ⟨(Line.isOutput_iff _).mpr ⟨hint, hintDir⟩, (Line.isInput_iff _).mpr ⟨hack, hackDir⟩⟩
  exact ⟨_, exec_hshake hc, rfl, rfl, rfl, tick_drive_lineDriven s .interrupt false, fun M hM => lineKept_drive _ hM,
    ⟨rfl, rfl, rfl, rfl⟩, rfl, rfl, rfl, rfl, rfl, ⟨rfl, rfl, rfl⟩, ⟨rfl, rfl⟩, ⟨rfl, rfl⟩, ⟨rfl, rfl⟩, rfl⟩

/-! ## I_ASSERT, one cycle -/

/-- A quiet cycle of the pulse, with the FSM's transition named. -/
theorem step_of_pulse {u : State} (hs : s.st = .iAssert) (hq : s.quietAt 0) (hu : fsmStep s = u) :
    step s = .next { u with ext := nextExt s u } := by
  subst hu
  exact step_of_busy (by simp [hs]) (by simp [hs]) hq

theorem fsmStep_iAssert_hold (hs : s.st = .iAssert) (hc : s.cnt.toNat < s.intpulse.toNat) :
    fsmStep s = { s.tick with cnt := s.cnt + 1 } := by
  rw [fsmStep, hs]
  exact if_pos hc

theorem fsmStep_iAssert_last (hs : s.st = .iAssert) (hc : s.intpulse.toNat ≤ s.cnt.toNat) :
    fsmStep s = { (s.tick.drive .interrupt true).updLine .ack (.arm .falling) with
      wline := .ack, wcnt := 0, wto := s.timeout != 0, st := .iAwait } := by
  rw [fsmStep, hs]
  exact if_neg (Nat.not_lt.mpr hc)

/-- The pulse's count stays below 2^24. -/
theorem toNat_cnt_succ_of_pulse (hc : s.cnt.toNat < s.intpulse.toNat) : (s.cnt + 1).toNat = s.cnt.toNat + 1 := by
  bv_omega

/-- Settles O46: the two clauses are the cases of the count; at its end the interrupt's level and ack's detector are
written over the always-running updates. -/
theorem iAssertHoldsThenArmsAck : Obligations.IAssertHoldsThenArmsAck := by
  intro s hs hq
  rcases Nat.lt_or_ge s.cnt.toNat s.intpulse.toNat with hc | hc
  · exact ⟨_, step_of_pulse hs hq (fsmStep_iAssert_hold hs hc),
      fun _ => ⟨hs, toNat_cnt_succ_of_pulse hc, rfl, rfl, rfl, tick_lineKept s⟩, fun h => absurd hc (Nat.not_lt.mpr h),
      ⟨rfl, rfl, rfl, rfl⟩, rfl, rfl, rfl, ⟨rfl, rfl, rfl⟩, ⟨rfl, rfl⟩, ⟨rfl, rfl⟩, ⟨rfl, rfl⟩⟩
  · have hbound : (s.timeout != 0) = true ↔ s.timeout ≠ 0 := bne_iff_ne
    have hothers (M : LineId) (hint : M ≠ .interrupt) (hack : M ≠ .ack) :
        s.lineKept ((s.tick.drive .interrupt true).updLine .ack (.arm .falling)) M :=
      lineKept_of_line_eq (by simp [hint, hack])
    exact ⟨_, step_of_pulse hs hq (fsmStep_iAssert_last hs hc), fun h => absurd h (Nat.not_lt.mpr hc),
      fun _ => ⟨rfl, rfl, rfl, rfl, hbound, tick_drive_lineDriven s .interrupt true, rfl, rfl, rfl, rfl, rfl, rfl,
        ⟨rfl, rfl, rfl⟩, hothers⟩,
      ⟨rfl, rfl, rfl, rfl⟩, rfl, rfl, rfl, ⟨rfl, rfl, rfl⟩, ⟨rfl, rfl⟩, ⟨rfl, rfl⟩, ⟨rfl, rfl⟩⟩

/-! ## The pulse, many cycles -/

theorem State.ShiftRun.intpulse (h : s.ShiftRun o pat n t) : t.intpulse = s.intpulse := by
  obtain ⟨-, hintpulse, -⟩ := h.regs
  exact hintpulse

/-- From its first cycle the pulse is held through all of INTPULSE cycles, and every line keeps its level (R98). -/
theorem run_pulse (hst : s.st = .iAssert) (hcnt : s.cnt = 1) (hk : k < s.intpulse.toNat) (hq : s.quietFor k) :
    ∃ t, s.ShiftRun s.op s.pat k t ∧ t.st = .iAssert ∧ t.cnt.toNat = k + 1 ∧ ∀ L, t.padOut L = s.padOut L := by
  induction k with
  | zero => exact ⟨s, shiftRun_zero s, hst, by rw [hcnt]; rfl, fun _ => rfl⟩
  | succ k ih =>
    obtain ⟨t, h, htst, htcnt, hout⟩ := ih (Nat.lt_of_succ_lt hk) (quietFor_mono hq (Nat.le_succ k))
    have hc : t.cnt.toNat < t.intpulse.toNat := by rw [htcnt, h.intpulse]; exact hk
    have hstep := step_of_pulse htst (h.quietAt hq) (fsmStep_iAssert_hold htst hc)
    exact ⟨_, h.next hstep (tick_linkFrame t) h.op h.pat, htst, by rw [← htcnt]; exact toNat_cnt_succ_of_pulse hc,
      fun L => (padOut_of_lineKept (tick_lineKept t L)).trans (hout L)⟩

/-- Settles O48: the pulse is held up to its last cycle, whose step ends it. -/
theorem interruptPulseLength : Obligations.InterruptPulseLength := by
  intro s hst hcnt hne hlow hq
  refine ⟨fun k hk => ?_, ?_⟩
  · obtain ⟨t, h, htst, -, hout⟩ := run_pulse hst hcnt hk (quietFor_mono hq hk.le)
    exact ⟨t, h.run, htst, (hout .interrupt).trans hlow⟩
  · obtain ⟨k, hk⟩ : ∃ k, s.intpulse.toNat = k + 1 := Nat.exists_eq_succ_of_ne_zero (by bv_omega)
    rw [hk] at hq ⊢
    obtain ⟨t, h, htst, htcnt, -⟩ := run_pulse hst hcnt (by omega) (quietFor_mono hq (Nat.le_succ k))
    obtain ⟨u, hu, -, hlast, -⟩ := iAssertHoldsThenArmsAck t htst (h.quietAt hq)
    obtain ⟨hust, -, -, -, -, hint, -, -, -, harmed, -⟩ := hlast (by rw [h.intpulse, hk, htcnt])
    exact ⟨u, (run_add h.run 1).trans (run_one hu), hust, padOut_of_lineDriven hint, harmed⟩

/-! ## The wait with no bound -/

/-- Settles O51: what a wait's going on asks of a bound is void. -/
theorem unboundedWaitHangs : Obligations.UnboundedWaitHangs := by
  intro s k hw hseen hto hq hc he
  obtain ⟨t, hrun, h⟩ := run_waitedFor hw hseen hq hc he fun hto' => absurd (hto.symm.trans hto') nofun
  exact ⟨t, hrun, h.st, h.lastStatus, h.bytecount⟩

end Sys2Proof.Machine
end

section
/-! How a byte cycle ends (44_transmit_cycle.md R119): which cycles of a busy block answer, which of these answer OK, and what
is left of them under the invariant for an XMIT. -/

namespace Sys2Proof.Machine

variable {s t : State}

/-- Of the cycles of the FSM only SEND's last and those of a wait answer. -/
theorem FsmEffect.answers_only (h : FsmEffect s t) (hv : t.rspValid = true) :
    (s.st = .lHigh ∧ s.op = .send) ∨ s.st.waiting = true := by
  cases h with
  | idle _ | raiseClock _ | holdLink _ _ | lowerClock _ | nextBit _ _ | raiseLatch _ _ | latchDone _ _ | startPulse _
  | holdPulse _ _ | pulseDone _ => cases hv
  | sendDone hs ho => exact .inl ⟨hs, ho⟩
  | waitAnswered _ hw => exact .inr hw
  | handshakeDone hs => exact .inr (by rw [hs]; rfl)
  | waitCounts hw _ _ => exact .inr hw
  | waitGoesOn hw _ => exact .inr hw

/-- A busy block answers OK only in a quiet cycle out of FAULT: a line fault answers LINE_FAULT, and FAULT nothing. -/
theorem quietAt_of_busy_ok (hr : s.inp.rst = false) (hi : s.st ≠ .idle) (h : step s = .next t)
    (hv : t.rspValid = true) (hok : t.rspStatus = .ok) : s.st ≠ .fault ∧ s.quietAt 0 := by
  obtain ⟨u, hu, rfl⟩ := (step_eq_next_iff s t).mp h
  have hf : s.st ≠ .fault := by
    intro hf
    rw [blockCycle_hold hr hf] at hu
    cases hu
    cases hv
  refine ⟨hf, hr, (lineFault_eq_false_iff s).mp (Bool.eq_false_iff.mpr fun hl => ?_)⟩
  rw [blockCycle_lineFault hr hf hl] at hu
  cases hu
  simp [hi] at hok

/-- The wait of a handshake answers OK only for an edge seen or remembered: `cancel` and the bound answer other codes. -/
theorem stepWait_of_handshake_ok (hs : s.st = .iAwait) (hv : (stepWait s).rspValid = true)
    (hok : (stepWait s).rspStatus = .ok) :
    s.waitHit = true ∧ stepWait s = (s.tick.disarm s.wline).handshakeDone := by
  have hne : s.st ≠ .wAwait := by simp [hs]
  obtain ⟨-, hw, -⟩ | ⟨hh, -, e⟩ | ⟨-, -, e⟩ | ⟨-, -, -, hw, -⟩ | ⟨-, -, -, -, e⟩ | ⟨-, -, -, -, e⟩ | ⟨-, -, -, -, e⟩ :=
    stepWait_cases s
  · exact absurd hw hne
  · exact ⟨hh, e⟩
  · rw [e] at hok; cases hok
  · exact absurd hw hne
  · rw [e] at hok; cases hok
  · rw [e] at hv; cases hv
  · rw [e] at hv; cases hv

/-- An armed ack is hit by a falling edge, seen or remembered (42_handshake.md R99). -/
theorem waitHit_of_iAwait (h : s.At .iAwait) (hh : s.waitHit = true) :
    (s.line .ack).seen = true ∨ (s.line .ack).fall = true := by
  obtain ⟨-, -, -, hwline, -, hsel, -⟩ := h
  have hedge : (s.line .ack).edge = (s.line .ack).fall := by rw [Line.edge, hsel]
  rwa [waitHit_iff, hwline, hedge] at hh

/-- Settles O55: the invariant leaves of the cycles that answer OK the one of I_AWAIT whose wait is hit. -/
theorem xmitOkOnlyAfterAck : Obligations.XmitOkOnlyAfterAck := by
  intro s t hinv hr hi hop h hv hok
  obtain ⟨hf, hq⟩ := quietAt_of_busy_ok hr hi h hv hok
  rw [step_of_busy hi hf hq] at h
  cases h
  have hst : s.st = .iAwait := by
    obtain ⟨-, ho⟩ | hw := (fsmStep_effect hf).answers_only hv
    · exact absurd (hop.symm.trans ho) nofun
    · refine ((waiting_iff s.st).mp hw).resolve_right fun hs => ?_
      obtain ⟨ho, -⟩ := hinv.wAwait hs
      exact absurd (hop.symm.trans ho) nofun
  have hwait : fsmStep s = stepWait s := by rw [fsmStep, hst]
  rw [hwait] at hv hok ⊢
  obtain ⟨hh, e⟩ := stepWait_of_handshake_ok hst hv hok
  rw [e]
  refine ⟨hst, waitHit_of_iAwait (hst ▸ at_of_inv hinv) hh, rfl, ?_⟩
  have hdata : (s.tick.disarm s.wline).handshakeDone.rspData = s.pat.setWidth 24 := if_pos hop
  rw [hdata, BitVec.toNat_setWidth_of_le (by decide)]

end Sys2Proof.Machine
end

section
/-! The quantizer (43_quantizer.md R107 to R113): its levels as a count of thresholds and as a quotient, what QUANT answers, and
the samples that QUANT and XMIT refuse. -/

namespace Sys2Proof.Machine

variable {s : State} {v : Data}

/-! ## The levels -/

/-- The closed form of 43_quantizer.md R108 over the integers: the levels are tens of the sample, up to 5. -/
theorem quantize_toNat_eq_div {x : Int} (hx : 0 ≤ x) : ((quantize x).toNat : Int) = min 5 (x / 10) := by
  unfold quantize
  split_ifs <;> bv_omega

/-- A level is known by its number (43_quantizer.md R108). -/
theorem quantize_eq_iff_div {x : Int} (hx : 0 ≤ x) (k : BitVec 3) : quantize x = k ↔ min 5 (x / 10) = k.toNat := by
  rw [← quantize_toNat_eq_div hx, Nat.cast_inj, BitVec.toNat_inj]

/-- Each branch of the quantizer has passed one threshold more than the branch before it. -/
theorem quantize_toNat_eq_count (x : Int) :
    (quantize x).toNat = (([10, 20, 30, 40, 50] : List Int).filter (· ≤ x)).length := by
  unfold quantize
  split_ifs <;> simp (disch := simp; omega) [List.filter_cons_of_pos, List.filter_cons_of_neg]

/-- Settles O39: a sample's range gives its quotient by 10, and the count is that of the branches of the quantizer. -/
theorem quantizerThresholds : Obligations.QuantizerThresholds := by
  intro x h0 h255
  have level (k : BitVec 3) (h : min 5 (x / 10) = k.toNat) : quantize x = k := (quantize_eq_iff_div h0 k).mpr h
  refine ⟨fun _ => level 0 ?_, fun _ _ => level 1 ?_, fun _ _ => level 2 ?_, fun _ _ => level 3 ?_,
    fun _ _ => level 4 ?_, fun _ => level 5 ?_, quantize_toNat_eq_count x⟩ <;> bv_omega

/-- Settles O40: each part is read off the quotient by 10. -/
theorem quantizerClosedForm : Obligations.QuantizerClosedForm := by
  refine ⟨fun x h255 => ?_, fun x y h0 hxy h255 => ?_, fun k hk => ⟨10 * k, ?_, ?_, ?_⟩, fun x h1 h255 => ?_⟩
  · have hx := quantize_toNat_eq_div (Int.natCast_nonneg x)
    split_ifs <;> omega
  · have hx := quantize_toNat_eq_div h0
    have hy := quantize_toNat_eq_div (h0.trans hxy)
    omega
  · omega
  · omega
  · have hx := quantize_toNat_eq_div (x := 10 * k) (by omega)
    omega
  · rw [Ne, quantize_eq_iff_div (by omega), quantize_toNat_eq_div (by omega)]
    omega

/-! ## The samples in range -/

theorem outOfRange_iff (x : Int) : outOfRange x = true ↔ x < 0 ∨ 255 < x := decide_eq_true_iff

/-- QUANT of a sample in [0, 255] responds with its level (43_quantizer.md R113). -/
theorem exec_quant (h : outOfRange v.toInt = false) (s : State) :
    exec (.quant v) s = .next (s.tick.respond .ok ((quantize v.toInt).setWidth 24)) :=
  if_neg (ne_true_of_eq_false h)

/-- Settles O30: the answer is the level widened to 24 bits. -/
theorem quantAnswersTheLevel : Obligations.QuantAnswersTheLevel := by
  intro v s h0 h255
  have hin : outOfRange v.toInt = false := by
    rw [← Bool.not_eq_true, outOfRange_iff]
    omega
  exact ⟨_, exec_quant hin s, BitVec.toNat_setWidth_of_le (by decide), respond_onlyAnswered s .ok _, rfl⟩

/-! ## The samples out of range -/

/-- An error that is not fatal is a response and nothing else (60_exceptions.md R129). -/
theorem raise_onlyAnswered {c : Status} (h : c.isFatal = false) (s : State) :
    ∃ t, raise c s = .next t ∧ s.onlyAnswered t c 0 ∧ s.extKept t :=
  ⟨_, raise_nonfatal h s, respond_onlyAnswered s c 0, rfl⟩

theorem exec_quant_outOfRange (h : outOfRange v.toInt = true) (s : State) :
    exec (.quant v) s = raise .outOfRange s := if_pos h

theorem Line.not_isOutput_iff (l : Line) : ¬l.isOutput = true ↔ l.claimed = false ∨ l.dir = .input := by
  rw [Line.isOutput_iff]
  cases l.claimed <;> cases l.dir <;> decide

theorem Line.not_isInput_iff (l : Line) : ¬l.isInput = true ↔ l.claimed = false ∨ l.dir = .output := by
  rw [Line.isInput_iff]
  cases l.claimed <;> cases l.dir <;> decide

/-- XMIT's lines are those of the link and those of the channel (44_transmit_cycle.md R115). -/
theorem claimed_of_xmit_lines (h : ¬s.linesMissing (.xmit v)) : s.linkClaimed = true ∧ s.channelClaimed = true := by
  obtain ⟨hout, hack⟩ := not_or.mp h
  have out (L : LineId) (hL : L = .data ∨ L = .clock ∨ L = .latch ∨ L = .interrupt) : (s.line L).isOutput = true :=
    by_contra fun hn => hout ⟨L, hL, (Line.not_isOutput_iff _).mp hn⟩
  have hin : (s.line .ack).isInput = true := by_contra fun hn => hack ((Line.not_isInput_iff _).mp hn)
  exact ⟨linkClaimed_iff.mpr ⟨out _ (by simp), out _ (by simp), out _ (by simp)⟩,
    channelClaimed_iff.mpr ⟨out _ (by simp), hin⟩⟩

/-- With its lines there XMIT looks at its sample next (44_transmit_cycle.md R115). -/
theorem exec_xmit (hl : s.linkClaimed = true) (hc : s.channelClaimed = true) :
    exec (.xmit v) s = if outOfRange v.toInt then raise .outOfRange s
      else .next (s.tick.startShift .xmit ((quantize v.toInt).setWidth 8)) := by
  obtain ⟨hint, hack⟩ := channelClaimed_iff.mp hc
  exact (if_neg (by simp [hl, hint])).trans (if_neg (by simp [hack]))

/-- Settles O37: both commands raise OUT_OF_RANGE, XMIT once its lines are found. -/
theorem outOfRangeSamplesAreSkipped : Obligations.OutOfRangeSamplesAreSkipped := by
  intro v s hv
  have hout : outOfRange v.toInt = true := (outOfRange_iff _).mpr hv
  refine ⟨?_, fun hlines => ?_⟩
  · rw [exec_quant_outOfRange hout]
    exact raise_onlyAnswered rfl s
  · obtain ⟨hl, hc⟩ := claimed_of_xmit_lines hlines
    rw [exec_xmit hl hc, if_pos hout]
    exact raise_onlyAnswered rfl s

end Sys2Proof.Machine
end

section
/-! A byte cycle of XMIT (44_transmit_cycle.md R115 to R119): its issue cycle, I_PRE, and after the shift the interrupt's pulse
and the wait for ack, with what the shift has latched kept to the end. -/

namespace Sys2Proof.Machine

variable {s t u : State} {v : Data} {o : Op} {pat : Byte} {n j b c : Nat} {L : LineId}

/-! ## XMIT's issue cycle -/

theorem exec_xmit_inRange (h0 : 0 ≤ v.toInt) (h255 : v.toInt ≤ 255) (hl : s.linkClaimed = true)
    (hc : s.channelClaimed = true) :
    exec (.xmit v) s = .next (s.tick.startShift .xmit ((quantize v.toInt).setWidth 8)) := by
  rw [exec_xmit hl hc, if_neg (mt (outOfRange_iff _).mp (by omega))]

/-- A level's pattern is the level (44_transmit_cycle.md R115). -/
theorem toNat_levelPattern (q : BitVec 3) : (q.setWidth 8).toNat = q.toNat := BitVec.toNat_setWidth_of_le (by decide)

theorem levelPattern_getLsbD (q : BitVec 3) {i : Nat} (hi : i < 8) : (q.setWidth 8).getLsbD i = q.getLsbD i := by
  simp [hi]

/-- A level has three bits: above them its pattern is 0 (44_transmit_cycle.md R115). -/
theorem levelPattern_getLsbD_seven (q : BitVec 3) : (q.setWidth 8).getLsbD 7 = false := by
  rw [levelPattern_getLsbD q (by decide), BitVec.getLsbD_of_ge q 7 (by decide)]

/-- Settles O31: the start of a shift drives the data line alone, with the pattern's bit 7. -/
theorem xmitStartsShifting : Obligations.XmitStartsShifting := by
  intro v s h0 h255 hout hack hackDir
  have hlines : ¬s.linesMissing (.xmit v) := by
    rintro (⟨L, hL, hmissing⟩ | hmissing)
    · obtain ⟨hclaimed, hdir⟩ := hout L hL
      simp [hclaimed, hdir] at hmissing
    · simp [hack, hackDir] at hmissing
  obtain ⟨hl, hc⟩ := claimed_of_xmit_lines hlines
  refine ⟨_, exec_xmit_inRange h0 h255 hl hc, rfl, rfl, toNat_levelPattern _, rfl, ?_,
    fun M hM => lineKept_drive _ hM, ⟨rfl, rfl, rfl, rfl⟩, rfl, rfl, rfl, rfl, ⟨rfl, rfl, rfl⟩, ⟨rfl, rfl⟩, ⟨rfl, rfl⟩,
    ⟨rfl, rfl⟩, rfl⟩
  rw [← levelPattern_getLsbD_seven (quantize v.toInt)]
  exact tick_drive_lineDriven s .data _

/-! ## I_PRE -/

theorem fsmStep_iPre (hs : s.st = .iPre) : fsmStep s = s.tick.assertInterrupt := by
  rw [fsmStep, hs]
  rfl

/-- Settles O45: one cycle, with the interrupt's level written over the always-running updates. -/
theorem iPreAssertsTheInterrupt : Obligations.IPreAssertsTheInterrupt := by
  intro s hs hq
  have hstep := step_of_busy (by simp [hs]) (by simp [hs]) hq
  rw [fsmStep_iPre hs] at hstep
  exact ⟨_, hstep, rfl, rfl, tick_drive_lineDriven s .interrupt false, fun M hM => lineKept_drive _ hM,
    ⟨rfl, rfl, rfl, rfl⟩, rfl, rfl, rfl, rfl, rfl, rfl, ⟨rfl, rfl, rfl⟩, ⟨rfl, rfl⟩, ⟨rfl, rfl⟩, ⟨rfl, rfl⟩⟩

/-! ## What a cycle of a handshake keeps -/

/-- A cycle of a handshake or a wait writes no claim or direction, and no level but the interrupt's. -/
def State.handshakeFrame (s t : State) : Prop :=
  t.op = s.op ∧ t.pat = s.pat ∧ s.regsKept t ∧ t.lastLevel = s.lastLevel ∧ s.inputsAdvanced t ∧
  (∀ L, (t.line L).claimed = (s.line L).claimed ∧ (t.line L).dir = (s.line L).dir) ∧
  ∀ L, L ≠ .interrupt → t.padOut L = s.padOut L

theorem tick_handshakeFrame (s : State) : s.handshakeFrame s.tick :=
  ⟨rfl, rfl, ⟨rfl, rfl, rfl⟩, rfl, ⟨rfl, rfl⟩, fun L => by simp, fun L _ => padOut_of_lineKept (tick_lineKept s L)⟩

/-- A write of a line's level, which is the interrupt's, or of its detector. -/
theorem handshakeFrame_updLine {f : Line → Line} (h : s.handshakeFrame t)
    (hf : ∀ l, (f l).claimed = l.claimed ∧ (f l).dir = l.dir) (hv : L ≠ .interrupt → ∀ l, (f l).lvl = l.lvl) :
    s.handshakeFrame (t.updLine L f) := by
  obtain ⟨hop, hpat, hregs, hlast, hadv, hclaim, hout⟩ := h
  refine ⟨hop, hpat, hregs, hlast, hadv, fun M => ?_, fun M hM => ?_⟩
  · rw [State.updLine_line]
    split
    · next e =>
      obtain ⟨hclaimed, hdir⟩ := hf (t.line L)
      rw [hclaimed, hdir, ← e]
      exact hclaim M
    · exact hclaim M
  · rw [State.padOut, State.updLine_line]
    split
    · next e => rw [hv (e ▸ hM), ← e]; exact hout M hM
    · exact hout M hM

theorem handshakeFrame_drive (h : s.handshakeFrame t) (v : Level) : s.handshakeFrame (t.drive .interrupt v) :=
  handshakeFrame_updLine h (fun _ => ⟨rfl, rfl⟩) (absurd rfl)

theorem handshakeFrame_disarm (h : s.handshakeFrame t) (L : LineId) : s.handshakeFrame (t.disarm L) :=
  handshakeFrame_updLine h (fun _ => ⟨rfl, rfl⟩) fun _ _ => rfl

theorem FsmEffect.handshakeFrame (h : FsmEffect s t) (hs : s.st = .iPre ∨ s.st = .iAssert ∨ s.st.waiting = true) :
    s.handshakeFrame t := by
  have htick := tick_handshakeFrame s
  cases h with
  | idle h | raiseClock h | lowerClock h | nextBit h _ | raiseLatch h _ | sendDone h _ | latchDone h _ =>
    simp [h, FsmState.waiting] at hs
  | holdLink h _ => rcases h with h | h | h <;> simp [h, FsmState.waiting] at hs
  | startPulse _ => exact handshakeFrame_drive htick false
  | holdPulse _ _ => exact htick
  | pulseDone _ =>
    have harm : s.handshakeFrame ((s.tick.drive .interrupt true).updLine .ack (.arm .falling)) :=
      handshakeFrame_updLine (handshakeFrame_drive htick true) (fun _ => ⟨rfl, rfl⟩) fun _ _ => rfl
    exact harm
  | waitAnswered c _ => exact handshakeFrame_disarm htick _
  | handshakeDone _ => exact handshakeFrame_disarm htick _
  | waitCounts _ _ _ => exact htick
  | waitGoesOn _ _ => exact htick

theorem step_handshakeFrame (hs : s.st = .iPre ∨ s.st = .iAssert ∨ s.st.waiting = true) (hq : s.quietAt 0)
    (h : step s = .next t) : s.handshakeFrame t := by
  have hi : s.st ≠ .idle := fun e => by simp [e, FsmState.waiting] at hs
  have hf : s.st ≠ .fault := fun e => by simp [e, FsmState.waiting] at hs
  rw [step_of_busy hi hf hq] at h
  cases h
  exact (fsmStep_effect hf).handshakeFrame hs

/-! ## What the shift of an XMIT has latched -/

/-- `n` cycles after `s` an XMIT has latched `pat`, which the external register holds; the registers and the claims are those
of `s`, and so are ack's synchronised levels to come, `n` cycles on (44_transmit_cycle.md R118). -/
structure State.Latched (s : State) (pat : Byte) (n : Nat) (t : State) : Prop where
  run : core.run n s = .next t
  op : t.op = .xmit
  regs : s.regsKept t
  lastLevel : t.lastLevel.toNat = pat.toNat % 8
  inputs : s.advancedBy t n
  claimed : ∀ L, (t.line L).claimed = (s.line L).claimed
  dir : ∀ L, (t.line L).dir = (s.line L).dir
  clock : t.padOut .clock = false
  latch : t.padOut .latch = false
  sync : ∀ j, t.syncAt .ack j = s.syncAt .ack (n + j)
  out : t.ext.out = pat
  pat : t.pat = pat

theorem State.ShiftDone.latched (h : s.ShiftDone .xmit pat n t) (hlegal : s.settleLegal) : s.Latched pat n t where
  run := h.ran.run
  op := h.ran.op
  pat := h.ran.pat
  regs := h.ran.regs
  lastLevel := h.lastLevel
  inputs := h.ran.inputs
  claimed := h.ran.claimed
  dir := h.ran.dir
  clock := h.clock
  latch := h.latch
  sync := h.ran.sync .ack (by simp [OnLink])
  out := h.out hlegal

theorem State.Latched.quietAt (h : s.Latched pat n t) (hq : s.quietFor (n + 1)) : t.quietAt 0 :=
  quietFor_of_advancedBy hq h.inputs (fun L hL => h.claimed L ▸ hL) 0 Nat.one_pos

theorem State.Latched.intpulse (h : s.Latched pat n t) : t.intpulse = s.intpulse := by
  obtain ⟨-, hintpulse, -⟩ := h.regs
  exact hintpulse

theorem State.Latched.timeout (h : s.Latched pat n t) : t.timeout = s.timeout := by
  obtain ⟨-, -, htimeout⟩ := h.regs
  exact htimeout

theorem State.Latched.inp_eq (h : s.Latched pat n t) : t.inp = s.inpAt n := inpAt_of_advancedBy h.inputs 0

/-- The latch's pad is LOW: the register commits nothing more (41_shift_register_link.md R93). -/
theorem State.Latched.padLevel_latch (h : s.Latched pat n t) (hl : s.linkClaimed = true) :
    t.padLevel .latch = false := by
  have hlt : t.linkClaimed = true := by
    simpa only [State.linkClaimed, Line.isOutput, h.claimed, h.dir] using hl
  rw [padLevel_of_linked hlt (.inr (.inr rfl))]
  exact h.latch

/-- A cycle of the handshake keeps what is latched. -/
theorem State.Latched.next (h : s.Latched pat n t) (hl : s.linkClaimed = true) (hstep : step t = .next u)
    (hs : t.st = .iPre ∨ t.st = .iAssert ∨ t.st.waiting = true) (hq : s.quietFor (n + 1)) :
    s.Latched pat (n + 1) u := by
  obtain ⟨hop, hpat, ⟨hsettle, hintpulse, htimeout⟩, hlast, hadv, hclaim, hout⟩ :=
    step_handshakeFrame hs (h.quietAt hq) hstep
  obtain ⟨hsettle', hintpulse', htimeout'⟩ := h.regs
  obtain ⟨hclaimed, hdir⟩ := forall_and.mp hclaim
  exact {
    run := (run_add h.run 1).trans (run_one hstep)
    op := hop.trans h.op
    pat := hpat.trans h.pat
    regs := ⟨hsettle.trans hsettle', hintpulse.trans hintpulse', htimeout.trans htimeout'⟩
    lastLevel := by rw [hlast, h.lastLevel]
    inputs := advancedBy_trans h.inputs (advancedBy_one hadv)
    claimed := fun L => (hclaimed L).trans (h.claimed L)
    dir := fun L => (hdir L).trans (h.dir L)
    clock := (hout .clock nofun).trans h.clock
    latch := (hout .latch nofun).trans h.latch
    sync := fun j => by
      have hoe : u.padOe .ack = t.padOe .ack := by simp only [State.padOe, Line.isOutput, hclaimed, hdir]
      rw [syncAt_of_sampled (step_lineSampled hstep .ack) hadv hoe (fun _ => hout .ack nofun), h.sync, Nat.add_assoc,
        Nat.add_comm 1 j]
    out := by
      obtain ⟨hsteps, -⟩ := externalRegisterCommits
      obtain ⟨-, hstay⟩ := hsteps t u hstep
      rw [hstay (by simp [h.padLevel_latch hl]), h.out] }

/-! ## The pulse and the wait after the shift -/

/-- `n` cycles after `s` the interrupt of an XMIT is in the `c`th cycle of its pulse (42_handshake.md R98). -/
structure State.PulsesAt (s : State) (pat : Byte) (n : Nat) (t : State) (c : Nat) : Prop where
  latched : s.Latched pat n t
  st : t.st = .iAssert
  cnt : t.cnt.toNat = c
  interrupt : t.padOut .interrupt = false
  bytecount : t.bytecount = s.bytecount

/-- `n` cycles after `s` the handshake of an XMIT has waited `j` cycles for ack's falling edge (42_handshake.md R98 to
R100). -/
structure State.AwaitsAck (s : State) (pat : Byte) (n : Nat) (t : State) (j : Nat) : Prop where
  latched : s.Latched pat n t
  st : t.st = .iAwait
  wline : t.wline = .ack
  bounded : t.wto = true → s.timeout ≠ 0
  wcnt : t.wcnt.toNat = if t.wto then j else 0
  interrupt : t.padOut .interrupt = true
  armed : (t.line .ack).armed = true
  esel : (t.line .ack).esel = .falling
  seen : (t.line .ack).seen = false
  bytecount : t.bytecount = s.bytecount

theorem State.AwaitsAck.waiting (h : s.AwaitsAck pat n t j) : t.st.waiting = true := by
  rw [h.st]
  rfl

/-- This cycle's edge of ack, by the levels to come. -/
theorem State.AwaitsAck.edge_eq (h : s.AwaitsAck pat n t j) :
    (t.line t.wline).edge = (s.syncAt .ack n && !s.syncAt .ack (n + 1)) := by
  rw [h.wline, ← edgeAt_zero, State.edgeAt, h.esel, h.latched.sync, h.latched.sync]
  rfl

section
variable (hl : s.linkClaimed = true)
include hl

/-- 44_transmit_cycle.md R116: the interrupt falls one cycle after the latch. -/
theorem State.ShiftDone.startPulse (h : s.ShiftDone .xmit pat n t) (hlegal : s.settleLegal) (hq : s.quietFor (n + 1)) :
    ∃ u, s.PulsesAt pat (n + 1) u 1 := by
  have hlatched := h.latched hlegal
  have hst := h.goesOn nofun
  obtain ⟨u, hstep, hust, hcnt, hint, -, -, -, -, -, -, -, -, -, ⟨hbytes, -⟩, -⟩ :=
    iPreAssertsTheInterrupt t hst (hlatched.quietAt hq)
  exact ⟨u, hlatched.next hl hstep (.inl hst) hq, hust, by rw [hcnt]; rfl, padOut_of_lineDriven hint,
    hbytes.trans h.ran.bytecount⟩

theorem State.PulsesAt.hold (h : s.PulsesAt pat n t c) (hc : c < s.intpulse.toNat) (hq : s.quietFor (n + 1)) :
    ∃ u, s.PulsesAt pat (n + 1) u (c + 1) := by
  obtain ⟨u, hstep, hhold, -, -, -, -, -, -, ⟨hbytes, -⟩, -⟩ := iAssertHoldsThenArmsAck t h.st (h.latched.quietAt hq)
  obtain ⟨hst, hcnt, -, -, -, hkept⟩ := hhold (by rw [h.cnt, h.latched.intpulse]; exact hc)
  exact ⟨u, h.latched.next hl hstep (.inr (.inl h.st)) hq, hst, by rw [hcnt, h.cnt],
    (padOut_of_lineKept (hkept .interrupt)).trans h.interrupt, hbytes.trans h.bytecount⟩

/-- The pulse's `j`th cycle after its first. -/
theorem State.PulsesAt.held (h : s.PulsesAt pat n t 1) (hj : j < s.intpulse.toNat) (hq : s.quietFor (n + j)) :
    ∃ u, s.PulsesAt pat (n + j) u (j + 1) := by
  induction j with
  | zero => exact ⟨t, h⟩
  | succ j ih =>
    obtain ⟨u, hu⟩ := ih (by omega) (quietFor_mono hq (by omega))
    exact hu.hold hl hj hq

/-- 42_handshake.md R98: the interrupt rises, and ack is armed for a falling edge. -/
theorem State.PulsesAt.armAck (h : s.PulsesAt pat n t s.intpulse.toNat) (hq : s.quietFor (n + 1)) :
    ∃ u, s.AwaitsAck pat (n + 1) u 0 := by
  obtain ⟨u, hstep, -, hlast, -, -, -, -, -, ⟨hbytes, -⟩, -⟩ := iAssertHoldsThenArmsAck t h.st (h.latched.quietAt hq)
  obtain ⟨hst, -, hwline, hwcnt, hwto, hint, -, -, -, harmed, hesel, hseen, -⟩ :=
    hlast (by rw [h.cnt, h.latched.intpulse])
  rw [h.latched.timeout] at hwto
  exact ⟨u, h.latched.next hl hstep (.inr (.inl h.st)) hq, hst, hwline, hwto.mp, by rw [hwcnt]; simp,
    padOut_of_lineDriven hint, harmed, hesel, hseen, hbytes.trans h.bytecount⟩

/-- The wait begins INTPULSE cycles after the pulse. -/
theorem State.PulsesAt.done (hP : 0 < s.intpulse.toNat) (h : s.PulsesAt pat n t 1)
    (hq : s.quietFor (n + s.intpulse.toNat)) : ∃ u, s.AwaitsAck pat (n + s.intpulse.toNat) u 0 := by
  obtain ⟨m, hm⟩ : ∃ m, s.intpulse.toNat = m + 1 := Nat.exists_eq_succ_of_ne_zero hP.ne'
  obtain ⟨u, hu⟩ := h.held hl (j := m) (by omega) (quietFor_mono hq (by omega))
  rw [← hm] at hu
  rw [hm] at hq ⊢
  exact hu.armAck hl hq

/-! ## The wait for ack -/

/-- One more cycle of the wait (42_handshake.md R101). -/
theorem State.AwaitsAck.next (h : s.AwaitsAck pat n t j) (hq : s.quietFor (n + 1)) (hc : (s.inpAt n).cancel = false)
    (he : (s.syncAt .ack n && !s.syncAt .ack (n + 1)) = false) (hb : s.timeout = 0 ∨ j + 1 < s.timeout.toNat) :
    ∃ u, s.AwaitsAck pat (n + 1) u (j + 1) := by
  have hedge := h.edge_eq.trans he
  have hcount (hto : t.wto = true) : t.wcnt.toNat = j ∧ j + 1 < s.timeout.toNat :=
    ⟨by rw [h.wcnt, if_pos hto], hb.resolve_left (h.bounded hto)⟩
  have hinside : ¬(t.wto = true ∧ t.wcnt.toNat + 1 = t.timeout.toNat) := by
    rintro ⟨hto, hx⟩
    obtain ⟨hj, hlt⟩ := hcount hto
    rw [hj, h.latched.timeout] at hx
    omega
  obtain ⟨u, hstep, -, -, -, hgo, hothers, -, -, -, -, -, hwline, hwto, -⟩ :=
    waitStepEndsOrGoesOn t h.waiting (h.latched.quietAt hq)
  obtain ⟨hst, -, hbytes, hkept, hwcnt⟩ :=
    hgo (by rw [h.wline]; exact h.seen) hedge (by rw [h.latched.inp_eq]; exact hc) hinside
  rw [h.wline] at hkept hothers hedge
  obtain ⟨-, -, -, harmed, hesel, hseen, -⟩ := hkept
  refine ⟨u, h.latched.next hl hstep (.inr (.inr h.waiting)) hq, hst.trans h.st, hwline.trans h.wline,
    by rw [hwto]; exact h.bounded, ?_, (padOut_of_lineKept (hothers .interrupt nofun)).trans h.interrupt,
    harmed.trans h.armed, hesel.trans h.esel, by rw [hseen, h.seen, hedge]; simp, hbytes.trans h.bytecount⟩
  rw [hwcnt, hwto]
  split
  · next hto =>
    obtain ⟨hj, hlt⟩ := hcount hto
    bv_omega
  · next hto => rw [h.wcnt, if_neg hto]

/-- Without an edge and a `cancel` the wait goes on, inside its bound (42_handshake.md R101). -/
theorem State.AwaitsAck.goesOn (h : s.AwaitsAck pat n t 0) (hq : s.quietFor (n + j))
    (hc : ∀ i, n ≤ i → i < n + j → (s.inpAt i).cancel = false)
    (he : ∀ i, n ≤ i → i < n + j → (s.syncAt .ack i && !s.syncAt .ack (i + 1)) = false)
    (hb : s.timeout = 0 ∨ j < s.timeout.toNat) : ∃ u, s.AwaitsAck pat (n + j) u j := by
  induction j with
  | zero => exact ⟨t, h⟩
  | succ j ih =>
    obtain ⟨u, hu⟩ := ih (quietFor_mono hq (by omega)) (fun i hi hij => hc i hi (by omega))
      (fun i hi hij => he i hi (by omega)) (hb.imp_right Nat.lt_of_succ_lt)
    have hle : n ≤ n + j := Nat.le_add_right n j
    have hlt : n + j < n + (j + 1) := Nat.lt_succ_self (n + j)
    exact hu.next hl hq (hc _ hle hlt) (he _ hle hlt) hb

/-- 44_transmit_cycle.md R119: ack's falling edge completes the XMIT, with its level. -/
theorem State.AwaitsAck.answered (h : s.AwaitsAck pat n t j) (hq : s.quietFor (n + 1))
    (he : (s.syncAt .ack n && !s.syncAt .ack (n + 1)) = true) :
    ∃ u, s.Latched pat (n + 1) u ∧ u.answered .ok (pat.setWidth 24) ∧ u.bytecount = s.bytecount + 1 ∧
      (u.line .interrupt).lvl = true ∧ (u.line .ack).armed = false := by
  obtain ⟨u, hstep, hhit, -, -, -, hothers, -⟩ := waitStepEndsOrGoesOn t h.waiting (h.latched.quietAt hq)
  obtain ⟨-, hdone, hoff, -⟩ := hhit (.inr (h.edge_eq.trans he))
  obtain ⟨hbytes, hxmit, -⟩ := hdone h.st
  rw [h.wline] at hoff hothers
  obtain ⟨harmed, -⟩ := off_of_lineDisarmed hoff
  exact ⟨u, h.latched.next hl hstep (.inr (.inr h.waiting)) hq, h.latched.pat ▸ hxmit h.latched.op,
    by rw [hbytes, h.bytecount], (padOut_of_lineKept (hothers .interrupt nofun)).trans h.interrupt, harmed⟩

end

/-! ## One XMIT -/

/-- An XMIT that is accepted in this cycle is at its first bit in the next (44_transmit_cycle.md R115). -/
theorem xmit_shiftsAt (hs : s.st = .idle) (hv : s.inp.cmdValid = true) (hd : decode s.inp.cmd = .ok (.xmit v))
    (h0 : 0 ≤ v.toInt) (h255 : v.toInt ≤ 255) (hready : s.linkReady) (hq : s.quietAt 0) :
    ∃ t, s.ShiftsAt .xmit ((quantize v.toInt).setWidth 8) 1 t .sData 0 0 := by
  obtain ⟨hl, hc, hclock, hlatch⟩ := hready
  have hstep := stepRunsTheAcceptedCommand s _ _ hs hq hv hd (exec_xmit_inRange h0 h255 hl hc)
  exact ⟨_, shiftsAt_start hstep hclock hlatch⟩

/-- The last of the eight bits starts seven bits after the first. -/
theorem bitStart_le (S : Nat) (hb : b < 8) : b * (2 * S + 1) ≤ 7 * (2 * S + 1) :=
  Nat.mul_le_mul_right _ (Nat.le_of_lt_succ hb)

/-- A bit's cycles with the clock HIGH and with it LOW, counted from the cycle that accepts the command
(44_transmit_cycle.md R118). -/
theorem State.ShiftsAt.clocked (h : s.ShiftsAt o pat 1 t .sData 0 0) (hl : s.linkClaimed = true) (hb : b < 8)
    (hj : j < s.settle.toNat) (hq : s.quietFor (17 * s.settle.toNat + 9)) :
    (∃ u, s.ShiftsAt o pat (2 + b * (2 * s.settle.toNat + 1) + j) u .sClkH b (j + 1)) ∧
    ∃ u, s.ShiftsAt o pat (2 + s.settle.toNat + b * (2 * s.settle.toNat + 1) + j) u .sClkL b (j + 1) := by
  have hle := bitStart_le s.settle.toNat hb
  obtain ⟨u, hu⟩ := h.bit hl (by omega) hb (quietFor_mono hq (by omega))
  refine ⟨?_, ?_⟩
  · rw [show 2 + b * (2 * s.settle.toNat + 1) + j = 1 + b * (2 * s.settle.toNat + 1) + 1 + j by omega]
    exact hu.inClkH hl hj (quietFor_mono hq (by omega))
  · rw [show 2 + s.settle.toNat + b * (2 * s.settle.toNat + 1) + j =
      1 + b * (2 * s.settle.toNat + 1) + 1 + s.settle.toNat + j by omega]
    exact hu.inClkL hl hj (quietFor_mono hq (by omega))

/-- Settles O54: the rows are places of the shift, then of the pulse, then of the wait; each phase starts from the end of the
one before. -/
theorem xmitByteCycle : Obligations.XmitByteCycle := by
  rintro s v k _ rfl hS hP hlegal hready hs hv hd h0 h255 hq hcancel hnoEdge hedge hbound
  have hS : 0 < s.settle.toNat := by bv_omega
  have hP : 0 < s.intpulse.toNat := by bv_omega
  have quiet {m : Nat} (hm : m ≤ 17 * s.settle.toNat + s.intpulse.toNat + 10 + k + 1) : s.quietFor m :=
    quietFor_mono hq hm
  obtain ⟨t, hshift⟩ := xmit_shiftsAt hs hv hd h0 h255 hready (quietFor_zero hq (by omega))
  obtain ⟨hl, -⟩ := hready
  have hpat {i : Nat} (hi : i < 8) := levelPattern_getLsbD (quantize v.toInt) hi
  obtain ⟨t1, hdone⟩ := hshift.done hl hS (quiet (by omega))
  rw [show 1 + 8 * (2 * s.settle.toNat + 1) + s.settle.toNat = 17 * s.settle.toNat + 9 by omega] at hdone
  obtain ⟨t2, hpulse⟩ := hdone.startPulse hl hlegal (quiet (by omega))
  obtain ⟨t3, hwait⟩ := hpulse.done hl hP (quiet (by omega))
  rw [show 17 * s.settle.toNat + 9 + 1 + s.intpulse.toNat = 17 * s.settle.toNat + s.intpulse.toNat + 10 by omega]
    at hwait
  have waits {j : Nat} (hj : j ≤ k) := hwait.goesOn hl (quiet (by omega)) (fun i hi hij => hcancel i hi (by omega))
    (fun i hi hij => hnoEdge i hi (by omega)) (hbound.imp_right hj.trans_lt)
  refine ⟨fun b hb => ?_, fun b j hb hj => ?_, fun j hj => ?_, ?_, fun j hj => ?_, fun j hj => ?_, ?_⟩
  · have hle := bitStart_le s.settle.toNat hb
    obtain ⟨u, hu⟩ := hshift.bit hl hS hb (quiet (by omega))
    exact ⟨u, hu.ran.run, hpat (show 7 - b < 8 by omega) ▸ hu.shows⟩
  · obtain ⟨⟨u, hu⟩, w, hw⟩ := hshift.clocked hl hb hj (quiet (by omega))
    have hbit := hpat (show 7 - b < 8 by omega)
    exact ⟨⟨u, hu.ran.run, hbit ▸ hu.shows⟩, w, hw.ran.run, hbit ▸ hw.shows⟩
  · obtain ⟨u, hu⟩ := hshift.inLHigh hl hj (quiet (by omega))
    rw [show 1 + 8 * (2 * s.settle.toNat + 1) + j = 16 * s.settle.toNat + 9 + j by omega] at hu
    obtain ⟨hst, -, hclock, hlatch⟩ := hu.shows
    exact ⟨u, hu.ran.run, hst, hlatch, hclock⟩
  · exact ⟨t1, hdone.ran.run, hdone.goesOn nofun, hdone.latch, hdone.ran.padOut .interrupt (by simp [OnLink])⟩
  · obtain ⟨u, hu⟩ := hpulse.held hl hj (quiet (by omega))
    exact ⟨u, hu.latched.run, hu.st, hu.interrupt, hu.latched.latch⟩
  · obtain ⟨u, hu⟩ := waits hj
    exact ⟨u, hu.latched.run, hu.st, hu.interrupt, hu.armed, hu.esel⟩
  · obtain ⟨u, hu⟩ := waits (Nat.le_refl k)
    obtain ⟨r, hr, hans, hbytes, hint, harmed⟩ := hu.answered hl hq hedge
    have hlevel : r.lastLevel = quantize v.toInt := by
      refine BitVec.eq_of_toNat_eq ?_
      rw [hr.lastLevel, toNat_levelPattern, Nat.mod_eq_of_lt (quantize v.toInt).isLt]
    obtain ⟨-, -, hdata, -⟩ := id hans
    refine ⟨r, hr.run, hdata ▸ hans, ?_, hbytes, hlevel, ?_, hint, harmed, hr.clock, hr.latch⟩
    · rw [hdata, BitVec.toNat_setWidth_of_le (by decide), toNat_levelPattern]
    · rw [hr.out, toNat_levelPattern]

end Sys2Proof.Machine
end

section
/-! The control commands (45_control.md R121 to R123): NOP and RDCFG are a response and nothing else, WRCFG writes one timing
register besides; and the read-only registers by their bits (10_state.md R33 to R36). -/

namespace Sys2Proof.Machine

variable {s : State} {r : RegIndex} {v : Data}

/-! ## NOP and WRCFG -/

/-- Settles O22: NOP makes no check, and its response is all it leaves. -/
theorem nopResponds : Obligations.NopResponds := fun s =>
  ⟨s.tick.respond .ok 0, rfl, respond_onlyAnswered s .ok 0, rfl⟩

/-- With a register it may write, and not 0 where that is illegal, WRCFG writes it and responds (45_control.md R122). -/
theorem exec_wrcfg (hr : r = .settle ∨ r = .intpulse ∨ r = .timeout) (hv : r ≠ .timeout → v ≠ 0) :
    exec (.wrcfg r v) s = .next ((s.tick.writeReg r v).respond .ok 0) := by
  have hwritable : ¬r.num ≥ 3 := by rcases hr with rfl | rfl | rfl <;> decide
  have hlegal : ¬((r = .settle ∨ r = .intpulse) ∧ unsignedOf v = 0) := by
    rintro ⟨hone, h0⟩
    exact hv (by rcases hone with rfl | rfl <;> decide) (BitVec.eq_of_toNat_eq h0)
  exact (if_neg hwritable).trans (if_neg hlegal)

/-- Settles O32: the write reaches its register alone, over what the always-running updates leave. -/
theorem wrcfgWritesARegister : Obligations.WrcfgWritesARegister := by
  intro r v s hr hv
  refine ⟨_, exec_wrcfg hr hv, ⟨rfl, rfl, rfl, rfl, rfl⟩, State.writeReg_settle .., State.writeReg_intpulse ..,
    State.writeReg_timeout .., fun L => lineKept_of_line_eq (State.writeReg_line ..), ?_⟩
  simp [State.countersKept, State.workKept, State.faultKept, State.inputsAdvanced, State.extKept]

/-! ## The read-only registers

`Nat.reduceAdd` is off where bits of a concatenation are read: it would rewrite the widths to a form that
`BitVec.getLsbD_append` does not match. -/

theorem laststat_toNat (s : State) : s.laststat.toNat = s.lastStatus.code.toNat :=
  BitVec.toNat_setWidth_of_le (by decide)

theorem cfgBits_getLsbD (l : Line) :
    l.cfgBits.getLsbD 0 = l.claimed ∧ l.cfgBits.getLsbD 1 = (l.dir == .output) ∧ l.cfgBits.getLsbD 2 = l.armed := by
  rw [Line.cfgBits]
  cases l.armed <;> cases l.dir <;> cases l.claimed <;> decide

/-- Line `L`'s bits of LINECFG start at bit `3 * L`, the lines below it having three each (10_state.md R34). -/
theorem linecfg_getLsbD (s : State) (L : LineId) {k : Nat} (hk : k < 3) :
    s.linecfg.getLsbD (3 * L.num + k) = (s.line L).cfgBits.getLsbD k := by
  simp only [State.linecfg, BitVec.getLsbD_append, -Nat.reduceAdd]
  cases L <;> grind [LineId.num]

theorem lineByte_getLsbD (s : State) (f : Line → Bool) (L : LineId) : (s.lineByte f).getLsbD L.num = f (s.line L) := by
  rw [State.lineByte, BitVec.getLsbD_ofBoolListLE]
  cases L <;> rfl

/-- Line `L`'s bits of LINELVL are bit `L` of its three bytes (10_state.md R35). -/
theorem linelvl_getLsbD (s : State) (L : LineId) :
    s.linelvl.getLsbD L.num = (s.line L).shownLevel ∧ s.linelvl.getLsbD (8 + L.num) = (s.line L).seen ∧
    s.linelvl.getLsbD (16 + L.num) = (s.line L).esel.bit := by
  have hlevel := lineByte_getLsbD s Line.shownLevel L
  have hseen := lineByte_getLsbD s Line.seen L
  have hesel := lineByte_getLsbD s (fun l => l.esel.bit) L
  have hnum : L.num < 8 := by cases L <;> decide
  simp only [State.linelvl, BitVec.getLsbD_append, -Nat.reduceAdd]
  exact ⟨by grind, by grind, by grind⟩

theorem Line.shownLevel_eq (l : Line) :
    l.shownLevel = if l.claimed then (if l.dir = .output then l.lvl else l.s2) else false := by
  rw [Line.shownLevel]
  cases l.claimed <;> cases l.dir <;> rfl

theorem Edge.bit_eq (e : Edge) : e.bit = (e == .rising) := by cases e <;> rfl

/-- `last_level` stands above the 16 bits of `bytecount` (10_state.md R36). -/
theorem xferinfo_toNat (s : State) : s.xferinfo.toNat = s.lastLevel.toNat * 2 ^ 16 + s.bytecount.toNat := by
  rw [State.xferinfo, BitVec.toNat_append, ← Nat.shiftLeft_add_eq_or_of_lt s.bytecount.isLt, Nat.shiftLeft_eq,
    BitVec.toNat_append]
  simp

/-! ## RDCFG -/

/-- RDCFG of an index other than 7 responds with the register's value of this cycle (45_control.md R123). -/
theorem exec_rdcfg (hr : r ≠ .reserved7) : exec (.rdcfg r) s = .next (s.tick.respond .ok (s.cfgValue r)) := if_neg hr

/-- Settles O33: the answer is the register's value, and each read-only register is known by its bits. -/
theorem rdcfgAnswersTheRegister : Obligations.RdcfgAnswersTheRegister := by
  intro r s hr
  refine ⟨_, exec_rdcfg hr, respond_onlyAnswered s .ok _, rfl, ?_, ?_, ?_, ?_, ?_, ?_, ?_⟩ <;> rintro rfl
  case refine_1 | refine_2 | refine_3 => rfl
  · refine (laststat_toNat s).trans ?_
    cases s.lastStatus <;> rfl
  · intro L
    obtain ⟨hclaimed, hdir, harmed⟩ := cfgBits_getLsbD (s.line L)
    have hbit {k : Nat} (hk : k < 3) := linecfg_getLsbD s L hk
    exact ⟨(hbit (k := 0) (by decide)).trans hclaimed, (hbit (by decide)).trans hdir, (hbit (by decide)).trans harmed⟩
  · intro L
    obtain ⟨hlevel, hseen, hesel⟩ := linelvl_getLsbD s L
    exact ⟨hlevel.trans (Line.shownLevel_eq _), hseen, hesel.trans (Edge.bit_eq _)⟩
  · exact xferinfo_toNat s

end Sys2Proof.Machine
end

section
/-! What ends or holds the block (60_exceptions.md R130 to R134): a report on a claimed line, FAULT, and IDLE with no
command. -/

namespace Sys2Proof.Machine

variable {s : State} {L : LineId}

/-- One report on a claimed line is a line fault (60_exceptions.md R132). -/
theorem lineFault_of_report (hc : (s.line L).claimed = true) (hp : padBit s.inp.padFault L = true) :
    s.lineFault = true := by
  by_contra hl
  have hquiet := (lineFault_eq_false_iff s).mp (Bool.eq_false_of_not_eq_true hl) L hc
  exact absurd (hp.symm.trans hquiet) nofun

/-- EnterFault with a command to answer answers it the error's code, with data 0 (60_exceptions.md R130). -/
theorem enterFault_faultAnswered (s : State) (c : Status) : (s.enterFault c true).faultAnswered c := ⟨rfl, rfl, rfl, rfl⟩

/-- EnterFault with no command to answer leaves the response registers (60_exceptions.md R133). -/
theorem enterFault_silent (s : State) (c : Status) : s.silent (s.enterFault c false) := ⟨rfl, rfl, rfl, rfl⟩

/-- Settles O18: case 3 of 60_exceptions.md R134 applies, and a command accepted or in progress is what it answers. -/
theorem lineFaultEntersFault : Obligations.LineFaultEntersFault := by
  intro s L hr hs hc hp
  refine ⟨_, step_of_blockCycle (blockCycle_lineFault hr hs (lineFault_of_report hc hp)),
    enterFault_faultEntered s .lineFault _, fun hcmd => ?_, fun hi hv => ?_⟩
  · have hans : (s.accepts || s.st != .idle) = true := by
      by_cases hi : s.st = .idle
      · simp [(accepts_iff s).mpr ⟨hcmd.resolve_left (not_not.mpr hi), hi, hr⟩]
      · simp [hi]
    rw [hans]
    exact enterFault_faultAnswered s .lineFault
  · have hno : (s.accepts || s.st != .idle) = false := by simp [State.accepts, hv, hi]
    rw [hno]
    exact enterFault_silent s .lineFault

/-- Settles O13: case 5 of 60_exceptions.md R134 applies, and IDLE's transition is the always-running updates. -/
theorem idleWithNoCommandHolds : Obligations.IdleWithNoCommandHolds := by
  intro s hs hq hv
  obtain ⟨hr, hl⟩ := quietAt_zero_lineFault hq
  have ha : s.accepts = false := by simp [State.accepts, hv]
  have hidle : fsmStep s = s.tick := by rw [fsmStep, hs]
  refine ⟨_, step_of_blockCycle (blockCycle_fsm hr (by simp [hs]) hl ha), ?_⟩
  rw [hidle]
  exact ⟨hs, ⟨rfl, rfl, rfl, rfl⟩, tick_lineKept s, ⟨rfl, rfl, rfl⟩, ⟨rfl, rfl⟩, ⟨rfl, rfl, rfl, rfl, rfl, rfl, rfl⟩,
    ⟨rfl, rfl⟩, ⟨rfl, rfl⟩⟩

/-- Settles O17: case 2 of 60_exceptions.md R134 applies, whose updates leave the edge detectors out. -/
theorem faultHoldsUntilReset : Obligations.FaultHoldsUntilReset := by
  intro s hs hr
  refine ⟨by simp [State.cmdReady, hs], _, step_of_blockCycle (blockCycle_hold hr hs), hs, ⟨rfl, rfl, rfl, rfl⟩,
    fun L => ?_, ⟨rfl, rfl, rfl⟩, ⟨rfl, rfl⟩, ⟨rfl, rfl, rfl, rfl, rfl, rfl, rfl⟩, ⟨rfl, rfl⟩, ⟨rfl, rfl⟩⟩
  simp [State.lineSampled]

end Sys2Proof.Machine
end

section
/-! Commands whose lines are not there (60_exceptions.md R135 point 2): whichever line is missing, the command's checks raise
LINE_UNAVAILABLE. -/

namespace Sys2Proof.Machine

variable {s : State} {i : Instr}

/-- Two checks with one error raise it whichever fails. -/
theorem raise_of_checks {p q : Prop} [Decidable p] [Decidable q] {c : Status} {r : Result} (h : p ∨ q) :
    (if p then raise c s else if q then raise c s else r) = raise c s := by
  by_cases hp : p
  · exact if_pos hp
  · exact (if_neg hp).trans (if_pos (h.resolve_left hp))

/-- A line that is not there fails the check for an output. -/
theorem Line.fails_isOutput {l : Line} (h : l.claimed = false ∨ l.dir = .input) : (!l.isOutput) = true := by
  simpa using l.not_isOutput_iff.mpr h

/-- A line that is not there fails the check for an input. -/
theorem Line.fails_isInput {l : Line} (h : l.claimed = false ∨ l.dir = .output) : (!l.isInput) = true := by
  simpa using l.not_isInput_iff.mpr h

theorem isOutput_of_linkClaimed {L : LineId} (hl : s.linkClaimed = true) (hL : L = .data ∨ L = .clock ∨ L = .latch) :
    (s.line L).isOutput = true := by
  obtain ⟨hdata, hclock, hlatch⟩ := linkClaimed_iff.mp hl
  rcases hL with rfl | rfl | rfl <;> assumption

/-- Of a well-formed command, the checks of its lines come first (60_exceptions.md R135). -/
theorem exec_of_linesMissing (hw : i.wellFormed = true) (h : s.linesMissing i) : exec i s = raise .lineUnavailable s := by
  cases i with
  | cfgout L f =>
    have hf : ¬(L = .interrupt ∧ f = false) := fun hLf => by simp [Instr.wellFormed, hLf] at hw
    exact (if_neg hf).trans (raise_of_checks (h.imp_right beq_iff_eq.mpr))
  | cfgin L =>
    refine raise_of_checks (h.imp_right fun hL => ?_)
    rcases hL with rfl | rfl | rfl | rfl <;> rfl
  | setlvl L f => exact raise_of_checks (h.imp_right Line.fails_isOutput)
  | armedge L e => exact raise_of_checks (h.imp_right Line.fails_isInput)
  | waitedge L f => exact raise_of_checks (h.imp_right Line.fails_isInput)
  | send v =>
    have hv : v.toNat ≤ 5 := by simpa [Instr.wellFormed] using hw
    obtain ⟨L, hL, hmissing⟩ := h
    have hlink : ¬s.linkClaimed = true := fun hl =>
      (Line.not_isOutput_iff _).mpr hmissing (isOutput_of_linkClaimed hl hL)
    exact (if_neg (Nat.not_lt.mpr hv)).trans (if_pos (by simpa using hlink))
  | hshake => exact raise_of_checks ((or_assoc.mpr h).imp Line.fails_isOutput Line.fails_isInput)
  | xmit v =>
    refine raise_of_checks (h.imp (fun hout => ?_) Line.fails_isInput)
    obtain ⟨L, hL, hmissing⟩ := hout
    have hnone : ¬(s.linkClaimed && (s.line .interrupt).isOutput) = true := by
      rw [Bool.and_eq_true]
      rintro ⟨hl, hint⟩
      refine (Line.not_isOutput_iff _).mpr hmissing ?_
      by_cases hi : L = .interrupt
      · rw [hi]; exact hint
      · exact isOutput_of_linkClaimed hl (by simpa [hi] using hL)
    simpa only [Bool.not_eq_true, Bool.not_eq_true'] using hnone
  | nop | quant _ | wrcfg _ _ | rdcfg _ | release _ => exact h.elim

/-- Settles O36: LINE_UNAVAILABLE is fatal, and the command it ends is answered. -/
theorem missingLinesAreFatal : Obligations.MissingLinesAreFatal := by
  intro i s hw h
  rw [exec_of_linesMissing hw h]
  exact ⟨_, raise_fatal rfl s, enterFault_faultEntered s .lineUnavailable true, enterFault_faultAnswered s .lineUnavailable,
    rfl⟩

end Sys2Proof.Machine
end

section
/-! Inputs that look alike to a cycle (60_exceptions.md R132, R136): `pad_fault` is read only through the line fault, and
`cancel` only in a wait. -/

namespace Sys2Proof.Machine

variable {s : State} {j : Inputs}

theorem withInputs_raise (h : j.padExt = s.inp.padExt) (c : Status) : raise c (s.withInputs j) = raise c s := by
  simp only [raise, withInputs_enterFault h, withInputs_tick h]

/-- A command reads the pads only, by the always-running updates. -/
theorem withInputs_exec (h : j.padExt = s.inp.padExt) (i : Instr) : exec i (s.withInputs j) = exec i s := by
  have ht := withInputs_tick h
  have hr := withInputs_raise h
  cases i with
  | nop => simp only [exec, execNop, ht]
  | cfgout L f => simp only [exec, execCfgout, ht, hr, withInputs_line]
  | cfgin L => simp only [exec, execCfgin, ht, hr, withInputs_line]
  | setlvl L f => simp only [exec, execSetlvl, ht, hr, withInputs_line]
  | armedge L e => simp only [exec, execArmedge, ht, hr, withInputs_line]
  | waitedge L f => simp only [exec, execWaitedge, ht, hr, withInputs_line]; rfl
  | send v => simp only [exec, execSend, ht, hr]; rfl
  | hshake => simp only [exec, execHshake, ht, hr, withInputs_line]
  | quant v => simp only [exec, execQuant, ht, hr]
  | xmit v => simp only [exec, execXmit, ht, hr, withInputs_line]; rfl
  | wrcfg r v => simp only [exec, execWrcfg, ht, hr]
  | rdcfg r => simp only [exec, execRdcfg, ht, hr]; rfl
  | release L => simp only [exec, execRelease, ht]

theorem withInputs_runCommand (h : j.padExt = s.inp.padExt) (w : Word) :
    runCommand w (s.withInputs j) = runCommand w s := by
  simp only [runCommand, withInputs_exec h, withInputs_raise h]

/-- The inputs `j` look to `s` like its own: they differ at most in `pad_fault`, with the same line fault, and outside a wait
in `cancel`. -/
structure State.SameInputs (s : State) (j : Inputs) : Prop where
  rst : j.rst = s.inp.rst
  cmdValid : j.cmdValid = s.inp.cmdValid
  cmd : j.cmd = s.inp.cmd
  padExt : j.padExt = s.inp.padExt
  lineFault : (s.withInputs j).lineFault = s.lineFault
  cancel : s.st.waiting = true → j.cancel = s.inp.cancel

theorem State.SameInputs.accepts_eq (h : s.SameInputs j) : (s.withInputs j).accepts = s.accepts := by
  simp only [State.accepts, State.cmdReady, withInputs_inp, withInputs_st, h.rst, h.cmdValid]

theorem State.SameInputs.blockCycle_eq (h : s.SameInputs j) : blockCycle (s.withInputs j) = blockCycle s := by
  have hp := h.padExt
  simp only [blockCycle, withInputs_inp, withInputs_st, h.rst, h.cmd, h.lineFault, h.accepts_eq,
    withInputs_resetCycle hp, withInputs_tickBase hp, withInputs_enterFault hp, withInputs_runCommand hp,
    withInputs_fsmStep hp h.cancel]

/-- The cycle is the same under inputs that look the same. -/
theorem State.SameInputs.step_eq (h : s.SameInputs j) : step (s.withInputs j) = step s :=
  step_congr h.blockCycle_eq (withInputs_nextExt h.padExt)

/-- Settles O19: with or without the reports there is no line fault, and nothing else reads them. -/
theorem unclaimedFaultsAreIgnored : Obligations.UnclaimedFaultsAreIgnored := by
  intro s i rest henv hquiet
  obtain rfl := inp_of_env henv
  rw [withInputs_of_env henv]
  have hl : s.lineFault = false := (lineFault_eq_false_iff s).mpr hquiet
  have hl' : (s.withInputs { s.inp with padFault := 0 }).lineFault = false :=
    (lineFault_eq_false_iff _).mpr fun L _ => by simp [padBit]
  exact State.SameInputs.step_eq ⟨rfl, rfl, rfl, rfl, hl'.trans hl.symm, fun _ => rfl⟩

/-- Settles O20: `cancel` is read by the wait step alone. -/
theorem cancelActsOnlyInWaits : Obligations.CancelActsOnlyInWaits := by
  intro s i rest b henv hw
  obtain rfl := inp_of_env henv
  rw [withInputs_of_env henv]
  exact State.SameInputs.step_eq
    ⟨rfl, rfl, rfl, rfl, withInputs_lineFault rfl, fun h => absurd (hw.symm.trans h) nofun⟩

end Sys2Proof.Machine
end

section
/-! Reset (70_reset_and_hazards.md R145, R148): the state it leaves, and the transition into it from any state. -/

namespace Sys2Proof.Machine

/-- Settles O6: each field is read off the reset state, the two delays fit their registers, and every line is
`Line.reset`. -/
theorem resetStateValues : Obligations.ResetStateValues := by
  refine ⟨rfl, rfl, rfl, rfl, rfl, rfl, rfl, rfl, fun L => ?_, reset_settle_toNat, reset_intpulse_toNat,
    rfl, rfl, rfl, rfl, rfl, rfl, rfl, rfl, rfl⟩
  rw [State.padOe, State.reset_line]
  exact ⟨rfl, rfl, rfl, rfl, rfl, rfl, rfl⟩

/-- Settles O7: case 1 of 60_exceptions.md R134 applies. What it leaves are the reset state's fields, and of each line
`Line.reset` with this cycle's sample. -/
theorem resetTransition : Obligations.ResetTransition := by
  intro s hr
  have hready : s.cmdReady = false := by simp [State.cmdReady, hr]
  refine ⟨hready, _, step_of_blockCycle (blockCycle_reset hr),
    rfl, rfl, rfl, rfl, rfl, rfl, rfl, rfl, fun L => ?_, reset_settle_toNat, reset_intpulse_toNat,
    rfl, rfl, rfl, rfl, rfl, rfl, rfl, rfl, rfl, rfl, rfl⟩
  simp [State.lineSampled, Line.reset]

end Sys2Proof.Machine
end
